-- ==== Sys2Proof/Word.lean ====
section
/-! DEFINITION. The register word, the byte and the small index types of the block (R9, R10, R33). -/

namespace Sys2Proof

/-- A register or command word: 32 bits, bit 0 the least significant (R9, R33). -/
abbrev Word := BitVec 32

/-- A byte of IN or of MDBUF (R100). -/
abbrev Byte := BitVec 8

/-- One bit as a word of width 1. -/
def bit (b : Bool) : BitVec 1 := if b then 1#1 else 0#1

end Sys2Proof
end

