-- ==== Sys2Proof/Syntax.lean ====
section
/-! DEFINITION. The 29 commands of the opcode table (R144), one constructor each, and their operand fields (R141). -/

namespace Sys2Proof

/-- Field S: the bit reader a BR_ command acts on, 0 = BR_IN, 1 = BR_MD (R141, R250). -/
inductive Reader where
  | inp
  | md
deriving DecidableEq, Repr

/-- Field GR: granule 0 or 1 (R141). -/
inductive Gran where
  | g0
  | g1
deriving DecidableEq, Repr

/-- Field CH: channel 0 or 1 (R141). -/
inductive Chan where
  | c0
  | c1
deriving DecidableEq, Repr

/-- A command of the block (R144). -/
inductive Instr where
  | nop
  | reset
  | run
  | step
  | reply
  | brReadBits (r : Reader) (n : BitVec 6)
  | brReadBytes (r : Reader)
  | brSeek (r : Reader)
  | brFindByte (r : Reader)
  | brTell (r : Reader)
  | brEof (r : Reader)
  | parseHeader
  | parseSideinfo
  | parseFrame
  | resolve
  | histPush
  | huffPair
  | huffQuad
  | huffGranule (g : Gran) (c : Chan)
  | scalefac (g : Gran) (c : Chan)
  | maindata
  | requant (g : Gran) (c : Chan)
  | reorder (g : Gran) (c : Chan)
  | stereo (g : Gran)
  | antialias (g : Gran) (c : Chan)
  | hybrid (g : Gran) (c : Chan)
  | freqinv (g : Gran) (c : Chan)
  | synth (g : Gran) (c : Chan)
  | reconstruct
deriving DecidableEq, Repr

end Sys2Proof
end

