-- ==== Sys2Proof/WellFormed.lean ====
section
/-! DEFINITION. The check on a command beyond its type: the bit count of BR_READ_BITS (R143, R252). -/

namespace Sys2Proof

/-- A command is well formed when its N field is one the block accepts: BR_READ_BITS refuses N > 32 (R252). Every
other field value of a command is legal. -/
def Instr.wellFormed : Instr → Bool
  | .brReadBits _ n => decide (n.toNat ≤ 32)
  | .nop | .reset | .run | .step | .reply | .brReadBytes _ | .brSeek _ | .brFindByte _ | .brTell _ | .brEof _
  | .parseHeader | .parseSideinfo | .parseFrame | .resolve | .histPush | .huffPair | .huffQuad
  | .huffGranule _ _ | .scalefac _ _ | .maindata | .requant _ _ | .reorder _ _ | .stereo _ | .antialias _ _
  | .hybrid _ _ | .freqinv _ _ | .synth _ _ | .reconstruct => true

end Sys2Proof
end

