-- ==== Sys2Proof/Decode.lean ====
section
/-! DEFINITION. The command word (R141-R145): the decoder, total on every 32-bit word and rejecting by name, and the
encoder written from the same field table. -/

namespace Sys2Proof

/-- Why a word is no command (R142, R145). Either answer is IllegalCommand (R624). -/
inductive DecodeError where
  /-- The opcode is not in the map of R144 (R145). -/
  | unknownOpcode
  /-- A reserved bit, or a bit of a field the opcode does not use, is 1 (R142). -/
  | strayBit
deriving DecidableEq, Repr

/-- The field OPC, bits [7:0] (R141). -/
def opcOf (w : Word) : BitVec 8 := w.extractLsb' 0 8

/-- The field S, bit 8 (R141). -/
def readerOf (w : Word) : Reader := if w.getLsbD 8 then .md else .inp

/-- The field GR, bit 9 (R141). -/
def granOf (w : Word) : Gran := if w.getLsbD 9 then .g1 else .g0

/-- The field CH, bit 10 (R141). -/
def chanOf (w : Word) : Chan := if w.getLsbD 10 then .c1 else .c0

/-- The field N, bits [21:16] (R141). -/
def countOf (w : Word) : BitVec 6 := w.extractLsb' 16 6

/-- A word of the opcode table's row (match, mask) is the command `i`; any other word has a stray bit (R142). -/
def accept (w mtch mask : Word) (i : Instr) : Except DecodeError Instr :=
  if w &&& mask = mtch then .ok i else .error .strayBit

/-- The command a word stands for (R141-R145, opcode_table.json). -/
def decode (w : Word) : Except DecodeError Instr :=
  match (opcOf w).toNat with
  | 0x00 => accept w 0x00000000 0xFFFFFFFF .nop
  | 0x01 => accept w 0x00000001 0xFFFFFFFF .reset
  | 0x02 => accept w 0x00000002 0xFFFFFFFF .run
  | 0x03 => accept w 0x00000003 0xFFFFFFFF .step
  | 0x04 => accept w 0x00000004 0xFFFFFFFF .reply
  | 0x10 => accept w 0x00000010 0xFFC0FEFF (.brReadBits (readerOf w) (countOf w))
  | 0x11 => accept w 0x00000011 0xFFFFFEFF (.brReadBytes (readerOf w))
  | 0x12 => accept w 0x00000012 0xFFFFFEFF (.brSeek (readerOf w))
  | 0x13 => accept w 0x00000013 0xFFFFFEFF (.brFindByte (readerOf w))
  | 0x14 => accept w 0x00000014 0xFFFFFEFF (.brTell (readerOf w))
  | 0x15 => accept w 0x00000015 0xFFFFFEFF (.brEof (readerOf w))
  | 0x20 => accept w 0x00000020 0xFFFFFFFF .parseHeader
  | 0x21 => accept w 0x00000021 0xFFFFFFFF .parseSideinfo
  | 0x22 => accept w 0x00000022 0xFFFFFFFF .parseFrame
  | 0x23 => accept w 0x00000023 0xFFFFFFFF .resolve
  | 0x24 => accept w 0x00000024 0xFFFFFFFF .histPush
  | 0x30 => accept w 0x00000030 0xFFFFFFFF .huffPair
  | 0x31 => accept w 0x00000031 0xFFFFFFFF .huffQuad
  | 0x32 => accept w 0x00000032 0xFFFFF9FF (.huffGranule (granOf w) (chanOf w))
  | 0x38 => accept w 0x00000038 0xFFFFF9FF (.scalefac (granOf w) (chanOf w))
  | 0x39 => accept w 0x00000039 0xFFFFFFFF .maindata
  | 0x40 => accept w 0x00000040 0xFFFFF9FF (.requant (granOf w) (chanOf w))
  | 0x41 => accept w 0x00000041 0xFFFFF9FF (.reorder (granOf w) (chanOf w))
  | 0x42 => accept w 0x00000042 0xFFFFFDFF (.stereo (granOf w))
  | 0x43 => accept w 0x00000043 0xFFFFF9FF (.antialias (granOf w) (chanOf w))
  | 0x44 => accept w 0x00000044 0xFFFFF9FF (.hybrid (granOf w) (chanOf w))
  | 0x45 => accept w 0x00000045 0xFFFFF9FF (.freqinv (granOf w) (chanOf w))
  | 0x46 => accept w 0x00000046 0xFFFFF9FF (.synth (granOf w) (chanOf w))
  | 0x47 => accept w 0x00000047 0xFFFFFFFF .reconstruct
  | _ => .error .unknownOpcode

/-- The opcode of a command (R144). -/
def Instr.opcode : Instr → BitVec 8
  | .nop => 0x00
  | .reset => 0x01
  | .run => 0x02
  | .step => 0x03
  | .reply => 0x04
  | .brReadBits _ _ => 0x10
  | .brReadBytes _ => 0x11
  | .brSeek _ => 0x12
  | .brFindByte _ => 0x13
  | .brTell _ => 0x14
  | .brEof _ => 0x15
  | .parseHeader => 0x20
  | .parseSideinfo => 0x21
  | .parseFrame => 0x22
  | .resolve => 0x23
  | .histPush => 0x24
  | .huffPair => 0x30
  | .huffQuad => 0x31
  | .huffGranule _ _ => 0x32
  | .scalefac _ _ => 0x38
  | .maindata => 0x39
  | .requant _ _ => 0x40
  | .reorder _ _ => 0x41
  | .stereo _ => 0x42
  | .antialias _ _ => 0x43
  | .hybrid _ _ => 0x44
  | .freqinv _ _ => 0x45
  | .synth _ _ => 0x46
  | .reconstruct => 0x47

/-- The bit of field S. -/
def Reader.code : Reader → BitVec 1
  | .inp => 0#1
  | .md => 1#1

/-- The bit of field GR. -/
def Gran.code : Gran → BitVec 1
  | .g0 => 0#1
  | .g1 => 1#1

/-- The bit of field CH. -/
def Chan.code : Chan → BitVec 1
  | .c0 => 0#1
  | .c1 => 1#1

/-- A command word from its fields, most significant first: reserved [31:22], N [21:16], reserved [15:11], CH [10],
GR [9], S [8], OPC [7:0] (R141). -/
def fieldsWord (n : BitVec 6) (ch gr s : BitVec 1) (opc : BitVec 8) : Word :=
  0#10 ++ n ++ 0#5 ++ ch ++ gr ++ s ++ opc

/-- The word of a command: the fields it uses in their places, every other bit 0 (R141, R142). -/
def encode (i : Instr) : Word :=
  match i with
  | .brReadBits r n => fieldsWord n 0#1 0#1 r.code i.opcode
  | .brReadBytes r => fieldsWord 0#6 0#1 0#1 r.code i.opcode
  | .brSeek r => fieldsWord 0#6 0#1 0#1 r.code i.opcode
  | .brFindByte r => fieldsWord 0#6 0#1 0#1 r.code i.opcode
  | .brTell r => fieldsWord 0#6 0#1 0#1 r.code i.opcode
  | .brEof r => fieldsWord 0#6 0#1 0#1 r.code i.opcode
  | .huffGranule g c => fieldsWord 0#6 c.code g.code 0#1 i.opcode
  | .scalefac g c => fieldsWord 0#6 c.code g.code 0#1 i.opcode
  | .requant g c => fieldsWord 0#6 c.code g.code 0#1 i.opcode
  | .reorder g c => fieldsWord 0#6 c.code g.code 0#1 i.opcode
  | .stereo g => fieldsWord 0#6 0#1 g.code 0#1 i.opcode
  | .antialias g c => fieldsWord 0#6 c.code g.code 0#1 i.opcode
  | .hybrid g c => fieldsWord 0#6 c.code g.code 0#1 i.opcode
  | .freqinv g c => fieldsWord 0#6 c.code g.code 0#1 i.opcode
  | .synth g c => fieldsWord 0#6 c.code g.code 0#1 i.opcode
  | .nop | .reset | .run | .step | .reply | .parseHeader | .parseSideinfo | .parseFrame | .resolve | .histPush
  | .huffPair | .huffQuad | .maindata | .reconstruct => fieldsWord 0#6 0#1 0#1 0#1 i.opcode

/-- The command the decoder reads from the word `w` of which the table gives `nbits` bits, every bit above them 0.
A command is one 32-bit word written to CMD (R140), so bits above 31 stand for none. -/
def decodeTableWord (nbits w : Nat) : Option Instr :=
  if w % 2 ^ nbits < 2 ^ 32 then
    match decode (BitVec.ofNat 32 (w % 2 ^ nbits)) with
    | .ok i => some i
    | .error _ => none
  else none

end Sys2Proof
end

