-- ==== Sys2Proof/Config.lean ====
section
/-! DEFINITION. What an implementation fixes (the named parameters of R7) and the free values: the OPEN code tables,
the OPEN synthesis window and the bytes past the end of IN, constants with no body. -/

namespace Sys2Proof

/-- One entry of a code table: the codeword is the `len`-bit string whose bits, first bit most significant, are the
binary digits of `code` (R340); it stands for `val`. -/
structure Code (α : Type) where
  len  : Nat
  code : Nat
  val  : α
deriving DecidableEq, Repr

/-- A big-value code table: codewords of magnitude pairs (x, y) (R340, R343). -/
abbrev PairTable := List (Code (Nat × Nat))

namespace Config

/-- IS_LAST_BAND (R7, D26): what long band 21 and short band 12 take as their IS position. The spec describes one
treatment, copy_prev. -/
inductive LastBand where
  | copyPrev
deriving DecidableEq, Repr

/-- PCM_CLIP (R7, D32): the transform of an emitted sample. The spec describes one, none. -/
inductive PcmClip where
  | none
deriving DecidableEq, Repr

/-- The scale-factor band boundaries at one sample rate: `long` is sfbL[0..22] in lines, `short` is sfbS[0..13] in lines
of one window (R392, R393). -/
structure Bands where
  long  : List Nat
  short : List Nat
deriving DecidableEq, Repr

/-- The named parameters of R7 that are plain data, and the band tables D9 names beside them. They are arguments of the
machine: State carries them unchanged (log 3). -/
structure Params where
  /-- RESERVOIR_KEEP: bytes of history kept at least (R314). -/
  reservoirKeep : Nat
  /-- IS_POS_CHANNEL: the channel whose scale factors are IS positions (R506). -/
  isPosChannel : Chan
  /-- IS_LAST_BAND (R506). -/
  isLastBand : LastBand
  /-- PCM_CLIP (R588). -/
  pcmClip : PcmClip
  /-- EMIT_INTERMEDIATES: whether OUT_INTER and OUT_DIAG are filled (R359, R590). -/
  emitIntermediates : Bool
  /-- IN_MAX: the number of bytes of the input memory (R100). -/
  inMax : Nat
  /-- BITRATE_KBPS by bitrate_index (R291). -/
  bitrateKbps : List Nat
  /-- SAMPLE_RATE_HZ by sampling_index (R291). -/
  sampleRateHz : List Nat
  /-- sfbL and sfbS by sampling_index (R392, R393, D9). -/
  bands : List Bands
deriving DecidableEq, Repr

/-- The values R7, R291, R392 and R393 give for this hardware. IN_MAX is OPEN: DESIGN CHOICE 2^32 - 1, the largest
length IN_LEN can hold (log 3). -/
def defaults : Params where
  reservoirKeep := 511
  isPosChannel := .c0
  isLastBand := .copyPrev
  pcmClip := .none
  emitIntermediates := false
  inMax := 4294967295
  bitrateKbps := [0, 32, 40, 48, 56, 64, 80, 96, 112, 128, 160, 192, 224, 256, 320]
  sampleRateHz := [44100, 48000, 32000]
  bands := [
    ⟨[0, 4, 8, 12, 16, 20, 24, 30, 36, 44, 52, 62, 74, 90, 110, 134, 162, 196, 238, 288, 342, 418, 576],
      [0, 4, 8, 12, 16, 22, 30, 40, 52, 66, 84, 106, 136, 192]⟩,
    ⟨[0, 4, 8, 12, 16, 20, 24, 30, 36, 42, 50, 60, 72, 88, 106, 128, 156, 190, 230, 276, 330, 384, 576],
      [0, 4, 8, 12, 16, 22, 28, 38, 50, 64, 80, 100, 126, 192]⟩,
    ⟨[0, 4, 8, 12, 16, 20, 24, 30, 36, 44, 54, 66, 82, 102, 126, 156, 194, 240, 296, 364, 448, 550, 576],
      [0, 4, 8, 12, 16, 22, 30, 42, 58, 78, 104, 138, 180, 192]⟩]

/-- The code tables HCODE[t] a platform supplies for the OPEN ids 7-13, 15, 16 and 24 (R399-R401): a free value
(log 6). The decoder reads it through `Machine.hcode`, which keeps only tables with the properties of R404. -/
opaque hcodeSupplied : Nat → PairTable

/-- SYNTH_D[0..511], the synthesis window: 512 fixed reals of which nothing may be assumed (R587); a free value
(log 5). -/
opaque synthD : Nat → ℝ

/-- What reading an address of IN at or above IN_MAX gives: there is no such byte (R100), and no rule states a value. A
free value (log 21). The block reads there only when the host has set IN_LEN above IN_MAX, against R47. -/
opaque absentByte : Nat → Byte

end Config

end Sys2Proof
end

