-- ==== Sys2Proof/Machine/ExactReal.lean ====
section
/-! DEFINITION. The exact reals of the DSP stages (R10, D4) as plain data: an expression over the constants the rules
name, and the real it denotes (log 4). Every operation below is exact: its denotation is the operation on the reals. -/

namespace Sys2Proof.Machine

/-- An exact real as an expression. No rule of the block compares two reals, so nothing depends on which expression
stands for a value (log 4). -/
inductive XReal where
  /-- an integer -/
  | int (z : Int)
  | add (a b : XReal)
  | mul (a b : XReal)
  | div (a b : XReal)
  | neg (a : XReal)
  | sqrt (a : XReal)
  /-- `base` to the rational power `p / q` (R460) -/
  | pow (base : Nat) (p : Int) (q : Nat)
  /-- cos(pi p / q) (R550, R583) -/
  | cosPi (p : Int) (q : Nat)
  /-- sin(pi p / q) (R551) -/
  | sinPi (p : Int) (q : Nat)
  /-- tan(pi p / q) (R503) -/
  | tanPi (p : Int) (q : Nat)
  /-- entry `i` of the OPEN window SYNTH_D (R587) -/
  | synthD (i : Nat)
deriving DecidableEq, Repr

/-- The real number an expression denotes. -/
noncomputable def XReal.val : XReal → ℝ
  | .int z => (z : ℝ)
  | .add a b => a.val + b.val
  | .mul a b => a.val * b.val
  | .div a b => a.val / b.val
  | .neg a => -a.val
  | .sqrt a => Real.sqrt a.val
  | .pow base p q => (base : ℝ) ^ ((p : ℝ) / (q : ℝ))
  | .cosPi p q => Real.cos (Real.pi * p / q)
  | .sinPi p q => Real.sin (Real.pi * p / q)
  | .tanPi p q => Real.tan (Real.pi * p / q)
  | .synthD i => Config.synthD i

/-- 0. -/
abbrev XReal.zero : XReal := .int 0

/-- Sum, with 0 as its unit. -/
def XReal.plus (a b : XReal) : XReal :=
  if a = .zero then b else if b = .zero then a else .add a b

/-- Negation; the negation of a negation is the value itself. -/
def XReal.negate : XReal → XReal
  | .int z => .int (-z)
  | .neg a => a
  | a => .neg a

/-- Difference. -/
def XReal.minus (a b : XReal) : XReal := a.plus b.negate

/-- Product, with 0 as its zero and 1 as its unit. -/
def XReal.times (a b : XReal) : XReal :=
  if a = .zero ∨ b = .zero then .zero
  else if a = .int 1 then b
  else if b = .int 1 then a
  else .mul a b

/-- Quotient; 0 over anything is 0. -/
def XReal.over (a b : XReal) : XReal := if a = .zero then .zero else .div a b

/-- `base` to the power `p / q`; a zero exponent gives 1. -/
def XReal.power (base : Nat) (p : Int) (q : Nat) : XReal :=
  if p = 0 then .int 1 else .pow base p q

/-- The sum of `f 0 … f (n - 1)`. -/
def XReal.sum : Nat → (Nat → XReal) → XReal
  | 0, _ => .zero
  | n + 1, f => (XReal.sum n f).plus (f n)

/-- The list `f 0, …, f (n - 1)`: an array of n entries. -/
def table {α : Type} (n : Nat) (f : Nat → α) : List α := (List.range n).map f

/-- Entry `i` of an array of reals; nothing is read past an array's end by any rule, where this answers 0. -/
def at0 (x : List XReal) (i : Nat) : XReal := x.getD i .zero

end Sys2Proof.Machine
end

