-- ==== Sys2Proof/Machine/Records.lean ====
section
/-! DEFINITION. The records of 10_state.md as data: the header, the side information, the frame, the scale factors, the
main data of one granule and channel, and the elements of the output sequences. -/

namespace Sys2Proof.Machine

/-- The errors of the block (R621), by their names. -/
inductive Err where
  | unexpectedEnd
  | misalignedRead
  | badSync
  | badId
  | badLayer
  | freeFormatBitrate
  | badBitrate
  | reservedSampleRate
  | reservedEmphasis
  | reservedBlockType
  | inconsistentSwitchPoint
  | reservoirInsufficient
  | badRegionTable
  | part3Overrun
  | illegalScfsiOnShortBlock
  | badHuffmanCode
  | illegalCommand
  | busy
  | stageNotReady
deriving DecidableEq, Repr

/-- The classes of errors (R621). -/
inductive ErrClass where
  | stream
  | reservoir
  | spectral
  | command
deriving DecidableEq, Repr

/-- How an action ends: with a value, or with an error raised (R11, R620). Either way it leaves a state: on an error,
the state holds the writes made before the raise. -/
inductive Res (σ α : Type) where
  | ok (a : α) (s : σ)
  | err (e : Err) (s : σ)
deriving DecidableEq, Repr

/-- An action on a state that may raise an error. -/
abbrev Act (σ α : Type) := σ → Res σ α

/-- An action on a bit position: what the bit reader and the parsers are made of. -/
abbrev Rd (α : Type) := Act Nat α

/-- An entry for each channel. -/
structure PerChan (α : Type) where
  c0 : α
  c1 : α
deriving DecidableEq, Repr

/-- An entry for each granule and channel. -/
structure PerPart (α : Type) where
  g0 : PerChan α
  g1 : PerChan α
deriving DecidableEq, Repr

/-- Three entries: one for each region or each window. -/
structure Tri (α : Type) where
  x0 : α
  x1 : α
  x2 : α
deriving DecidableEq, Repr

/-- The header record H (R52, R161). -/
structure Header where
  sync          : BitVec 12
  id            : BitVec 1
  layer         : BitVec 2
  protection    : BitVec 1
  bitrateIndex  : BitVec 4
  samplingIndex : BitVec 2
  padding       : BitVec 1
  priv          : BitVec 1
  mode          : BitVec 2
  modeExt       : BitVec 2
  copyright     : BitVec 1
  original      : BitVec 1
  emphasis      : BitVec 2
deriving DecidableEq, Repr

/-- The side information of one granule and channel, `gc` (R54, R166). A flag is true for 1. -/
structure GranInfo where
  part23Length     : BitVec 12
  bigValues        : BitVec 9
  globalGain       : BitVec 8
  scalefacCompress : BitVec 4
  split            : Bool
  blockType        : BitVec 2
  switchPoint      : Bool
  tableSelect      : Tri (BitVec 5)
  subblockGain     : Tri (BitVec 3)
  regionAddress1   : BitVec 4
  regionAddress2   : BitVec 4
  preflag          : Bool
  scalefacScale    : Bool
  count1Table      : Bool
deriving DecidableEq, Repr

/-- The side-information record SI (R54). The lists over channels have nch entries (R48); `scfsi` has four flags for
each channel. private_bits is 5 bits wide on a mono frame and 3 on another; it is held zero-extended. -/
structure SideInfo where
  mainDataEnd : BitVec 9
  privateBits : BitVec 5
  scfsi       : List (List Bool)
  gr0         : List GranInfo
  gr1         : List GranInfo
deriving DecidableEq, Repr

/-- The frame record FRM (R53). `hsLen` with `off` is the raw header, CRC and side-info byte span `hs`. -/
structure Frame where
  fidx    : Nat
  off     : Nat
  hdr     : Header
  crc     : Option (BitVec 16)
  nch     : Nat
  si      : SideInfo
  hsLen   : Nat
  payload : List Byte
  size    : Nat
deriving DecidableEq, Repr

/-- A scale-factor value (R56). `long l`: l[0..21]. `short s`: s[0..12], three windows each. `mixed l s`: l[0..7] and
s[3..12], the first entry of the list being band 3. -/
inductive ScaleFac where
  | long (l : List (BitVec 4))
  | short (s : List (List (BitVec 4)))
  | mixed (l : List (BitVec 4)) (s : List (List (BitVec 4)))
deriving DecidableEq, Repr

/-- MDST (R55): how far the main data of one granule and channel is decoded. -/
inductive MdStage where
  | none
  | sf
  | huf
deriving DecidableEq, Repr

/-- TAG (R57): the last DSP stage that wrote XR of one granule and channel. -/
inductive Tag where
  | none
  | req
  | reord
  | stereo
  | aa
  | hyb
  | fi
  | syn
deriving DecidableEq, Repr

/-- The main-data record MD of one granule and channel (R55), less MDST. -/
structure PartData where
  sf       : ScaleFac
  is       : List Int
  zpb      : Nat
  count1   : Nat
  p23start : Nat
  p2len    : Nat
deriving DecidableEq, Repr

/-- An entry of HIST (R43). -/
structure HistEntry where
  fidx  : Nat
  off   : Nat
  bytes : List Byte
deriving DecidableEq, Repr

/-- A triple of MD_REF (R44). -/
structure ByteRef where
  fidx : Nat
  off  : Nat
  len  : Nat
deriving DecidableEq, Repr

/-- An element of OUT_FRAMES: the frame record with its raw header and side-info bytes (R60, R206). -/
structure OutFrame where
  frame : Frame
  raw   : List Byte
deriving DecidableEq, Repr

/-- One granule and channel of an element of OUT_MAINDATA. -/
structure OutPart where
  gr   : Gran
  ch   : Chan
  mdst : MdStage
  data : PartData
deriving DecidableEq, Repr

/-- An element of OUT_MAINDATA: (fidx, MD), MD having the entries of ch < nch (R55, R60). -/
structure OutMain where
  fidx  : Nat
  parts : List OutPart
deriving DecidableEq, Repr

/-- An element of OUT_BYTEREF (R60). -/
structure OutRef where
  fidx : Nat
  refs : List ByteRef
deriving DecidableEq, Repr

/-- An element of OUT_INTER (R60). -/
structure OutInter where
  fidx : Nat
  gr   : Gran
  ch   : Chan
  tag  : Tag
  vals : List XReal
deriving DecidableEq, Repr

/-- The kind of a decoded symbol in the diagnostics (R359). -/
inductive SymKind where
  | pair
  | quad
  | quadDiscarded
deriving DecidableEq, Repr

/-- A decoded symbol: its kind, first bit position in MDBUF, number of bits, and values (R359). -/
structure DiagSym where
  kind  : SymKind
  start : Nat
  len   : Nat
  vals  : List Int
deriving DecidableEq, Repr

/-- An element of OUT_DIAG: (fidx, gr, ch, D), D being r1, r2, the position after the big-value region and the symbols
in decode order (R359). -/
structure OutDiag where
  fidx   : Nat
  gr     : Gran
  ch     : Chan
  r1     : Nat
  r2     : Nat
  bigEnd : Nat
  syms   : List DiagSym
deriving DecidableEq, Repr

/-- An entry of a per-channel structure. -/
def PerChan.get {α : Type} (x : PerChan α) : Chan → α
  | .c0 => x.c0
  | .c1 => x.c1

/-- A per-channel structure with one entry replaced. -/
def PerChan.set {α : Type} (x : PerChan α) (c : Chan) (v : α) : PerChan α :=
  match c with
  | .c0 => { x with c0 := v }
  | .c1 => { x with c1 := v }

/-- The channels of a granule of a per-part structure. -/
def PerPart.gran {α : Type} (x : PerPart α) : Gran → PerChan α
  | .g0 => x.g0
  | .g1 => x.g1

/-- An entry of a per-part structure. -/
def PerPart.get {α : Type} (x : PerPart α) (g : Gran) (c : Chan) : α := (x.gran g).get c

/-- A per-part structure with one entry replaced. -/
def PerPart.set {α : Type} (x : PerPart α) (g : Gran) (c : Chan) (v : α) : PerPart α :=
  match g with
  | .g0 => { x with g0 := x.g0.set c v }
  | .g1 => { x with g1 := x.g1.set c v }

/-- A per-part structure with the same entry everywhere. -/
def PerPart.const {α : Type} (v : α) : PerPart α := ⟨⟨v, v⟩, ⟨v, v⟩⟩

/-- Entry `i` of three, i being 0, 1 or 2. -/
def Tri.get {α : Type} (x : Tri α) : Nat → α
  | 0 => x.x0
  | 1 => x.x1
  | _ => x.x2

/-- The number of a channel. -/
def chanIdx : Chan → Nat
  | .c0 => 0
  | .c1 => 1

end Sys2Proof.Machine
end

