-- ==== Sys2Proof/Machine/Act.lean ====
section
/-! DEFINITION. The combinators of actions that may raise an error: sequencing, raising and checking (R11). -/

namespace Sys2Proof.Machine

/-- The action that answers `a` and changes nothing. -/
def Act.pure {σ α : Type} (a : α) : Act σ α := fun s => .ok a s

/-- `raise E` (R11, R620): the state keeps the writes made so far. -/
def Act.raise {σ α : Type} (e : Err) : Act σ α := fun s => .err e s

/-- First `x`, then `f` of its answer; an error of `x` ends both. -/
def Act.bind {σ α β : Type} (x : Act σ α) (f : α → Act σ β) : Act σ β := fun s =>
  match x s with
  | .ok a t => f a t
  | .err e t => .err e t

/-- `x`, whose answer must satisfy `p`: else `e` is raised, right after `x`. -/
def Act.check {σ α : Type} (x : Act σ α) (p : α → Bool) (e : Err) : Act σ α :=
  x.bind fun a => if p a then Act.pure a else Act.raise e

/-- Raises `e` unless the state satisfies `p`. -/
def Act.need {σ : Type} (p : σ → Bool) (e : Err) : Act σ Unit := fun s => if p s then .ok () s else .err e s

/-- A change of the state that raises nothing. -/
def Act.modify {σ : Type} (f : σ → σ) : Act σ Unit := fun s => .ok () (f s)

/-- The state itself. -/
def Act.get {σ : Type} : Act σ σ := fun s => .ok s s

/-- `f` of each of `n` items in a row, the answers in order. -/
def Act.repeat {σ α : Type} (f : Act σ α) : Nat → Act σ (List α)
  | 0 => Act.pure []
  | n + 1 => f.bind fun a => (Act.repeat f n).bind fun as => Act.pure (a :: as)

/-- `f i` for each `i` of a list in order, the answers in order. -/
def Act.forEach {σ α ι : Type} (f : ι → Act σ α) : List ι → Act σ (List α)
  | [] => Act.pure []
  | i :: is => (f i).bind fun a => (Act.forEach f is).bind fun as => Act.pure (a :: as)

end Sys2Proof.Machine
end

