-- ==== Sys2Proof/Machine/Memory.lean ====
section
/-! DEFINITION. The input memory IN (R100-R102): the bytes the host has written, as (address, byte) pairs in one
canonical form. -/

namespace Sys2Proof.Machine

/-- IN as the list of its bytes that differ from what an unlisted address reads as, addresses rising. -/
abbrev Memory := List Host.Cell

/-- What an address of IN that nothing has written reads as. The spec leaves the contents of IN after power-on
unspecified (R64): DESIGN CHOICE 0x00 (log 2). -/
def powerOnByte : Byte := 0x00

/-- The byte at address `a`. -/
def Memory.read : Memory → Nat → Byte
  | [], _ => powerOnByte
  | (b, v) :: m, a => if b = a then v else Memory.read m a

/-- `m` with the entry for `a`, if any, taken out. -/
def Memory.erase : Memory → Nat → Memory
  | [], _ => []
  | (b, v) :: m, a => if b = a then m else (b, v) :: Memory.erase m a

/-- `m`, which has no entry for `a`, with the entry (a, v) put in its place. -/
def Memory.insert : Memory → Nat → Byte → Memory
  | [], a, v => [(a, v)]
  | (b, u) :: m, a, v => if a < b then (a, v) :: (b, u) :: m else (b, u) :: Memory.insert m a v

/-- `m` with byte `v` at address `a`. -/
def Memory.write (m : Memory) (a : Nat) (v : Byte) : Memory :=
  if v = powerOnByte then m.erase a else (m.erase a).insert a v

/-- The canonical form: addresses strictly rising, and no entry equal to what an unlisted address reads as. -/
abbrev Memory.wf (m : Memory) : Prop :=
  m.Pairwise (fun x y => x.1 < y.1) ∧ ∀ c ∈ m, c.2 ≠ powerOnByte

/-- The memory that holds `bytes` from address `a` on and nothing else. -/
def Memory.ofBytes : Nat → List Byte → Memory
  | _, [] => []
  | a, v :: vs => if v = powerOnByte then Memory.ofBytes (a + 1) vs else (a, v) :: Memory.ofBytes (a + 1) vs

end Sys2Proof.Machine
end

