-- ==== Sys2Proof/Machine/State.lean ====
section
/-! DEFINITION. The whole state of the block (10_state.md) as plain data, the state after power-on (R64), and the
reasons a step can stop. -/

namespace Sys2Proof.Machine

/-- STATUS.MODE (R38): a run state, not a privilege mode (R632). -/
inductive Mode where
  | idle
  | running
  | checkpoint
  | done
deriving DecidableEq, Repr

/-- A move of the outside world or a turn of the sequencer: what one step of the machine performs (R30, R115; log 7). -/
inductive Move where
  /-- The host writes the word `v` to the register at byte offset `off` (R33); a write to CMD issues a command (R34). -/
  | write (off : Nat) (v : Word)
  /-- The host reads the register at byte offset `off` (R33). -/
  | read (off : Nat)
  /-- The host writes byte `b` to IN at address `a` (R101, R119). -/
  | writeIn (a : Nat) (b : Byte)
  /-- The sequencer has its turn (R203). -/
  | sequencer
  /-- Power-on reset (R670). -/
  | powerOn
deriving DecidableEq, Repr

/-- The state of the block: the registers, streams, records, carry state and outputs of 10_state.md, and the model's own
fields cfg, moves and readLog (INVENTORY.md). -/
structure State where
  -- registers (R36-R51); CMD has no stored value (R34), STATUS is computed (R38)
  arg       : Word
  result0   : Word
  result1   : Word
  err       : Word
  bandMask  : Word
  frameCnt  : Word
  inLen     : Word
  irqStatus : BitVec 3
  irqEnable : BitVec 3
  ckptInfo  : Word
  -- the stored fields of STATUS (R38)
  mode      : Mode
  found     : Bool
  stopped   : Bool
  frmValid  : Bool
  mdValid   : Bool
  -- streams (R40-R44, R100)
  mem       : Memory
  inPos     : Nat
  mdPos     : Nat
  mdbuf     : List Byte
  hist      : List HistEntry
  mdRef     : List ByteRef
  -- records and working arrays (R53-R57)
  frm       : Frame
  md        : PerPart PartData
  mdst      : PerPart MdStage
  xr        : PerPart (List XReal)
  tag       : PerPart Tag
  -- carry state (R58, R59): OVL[ch] is 32 lists of 18, VH[ch] is 16 lists of 64, slot 0 newest
  ovl       : PerChan (List (List XReal))
  vh        : PerChan (List (List XReal))
  -- outputs (R60)
  outFrames   : List OutFrame
  outMaindata : List OutMain
  outPcm      : PerChan (List XReal)
  outByteref  : List OutRef
  outInter    : List OutInter
  outDiag     : List OutDiag
  outBytes    : List (List Byte)
  -- the model's own
  cfg       : Config.Params
  moves     : List Move
  readLog   : List (Nat × Word)
deriving DecidableEq, Repr

/-- Why the machine stops. No command and no sequencer step raises one: the errors of R621 are recorded and the machine
goes on (R620, R622). -/
inductive Fault where
  /-- A host write of IN at an address at or above IN_MAX, which does not exist (R100). Raised by the move `writeIn`.
  Safe: the spec gives such a byte no place, and no true claim about the block depends on it. -/
  | inAddressAbsent
deriving DecidableEq, Repr

/-- Why the machine gives a move no meaning. -/
inductive Refusal where
  /-- A command whose meaning is not written yet, by its mnemonic. No arm of exec answers it now. Safe. -/
  | notModelled (mnemonic : String)
  /-- A host write of IN or of IN_LEN while MODE is RUNNING or CHECKPOINT: "the model gives the host agent no such move
  in those modes" (R680). Raised by the moves `writeIn` and `write 0x20`. Safe: the spec forbids the move. -/
  | hostDutyDuringRun
deriving DecidableEq, Repr

/-- The contents of FRM after reset: unspecified (R64), never read while FRM_VALID = 0 (R673). DESIGN CHOICE all zero
(log 1). -/
def Frame.reset : Frame where
  fidx := 0
  off := 0
  hdr := ⟨0, 0, 0, 0, 0, 0, 0, 0, 0, 0, 0, 0, 0⟩
  crc := none
  nch := 1
  si := ⟨0, 0, [], [], []⟩
  hsLen := 0
  payload := []
  size := 0

/-- The contents of MD of one granule and channel after reset: unspecified (R64), never read while MDST = NONE.
DESIGN CHOICE zero (log 1). -/
def PartData.reset : PartData where
  sf := .long (List.replicate 22 0)
  is := List.replicate 576 0
  zpb := 0
  count1 := 0
  p23start := 0
  p2len := 0

/-- The state right after power-on (R64, R671). -/
def State.reset : State where
  arg := 0
  result0 := 0
  result1 := 0
  err := 0
  bandMask := 0xFFFFFFFF
  frameCnt := 0
  inLen := 0
  irqStatus := 0
  irqEnable := 0
  ckptInfo := 0
  mode := .idle
  found := false
  stopped := false
  frmValid := false
  mdValid := false
  mem := []
  inPos := 0
  mdPos := 0
  mdbuf := []
  hist := []
  mdRef := []
  frm := Frame.reset
  md := .const PartData.reset
  mdst := .const .none
  xr := .const (List.replicate 576 .zero)
  tag := .const .none
  ovl := ⟨List.replicate 32 (List.replicate 18 .zero), List.replicate 32 (List.replicate 18 .zero)⟩
  vh := ⟨List.replicate 16 (List.replicate 64 .zero), List.replicate 16 (List.replicate 64 .zero)⟩
  outFrames := []
  outMaindata := []
  outPcm := ⟨[], []⟩
  outByteref := []
  outInter := []
  outDiag := []
  outBytes := []
  cfg := Config.defaults
  moves := []
  readLog := []

end Sys2Proof.Machine
end

