-- ==== Sys2Proof/Machine/Operands.lean ====
section
/-! DEFINITION. The operand forms of the commands (R141-R143): the fields of ARG, the granule and channel selects, and
how a result becomes a 32-bit register value. -/

namespace Sys2Proof.Machine

/-- ARG as a byte count or a bit position (R143: BR_READ_BYTES, BR_SEEK). -/
def argNat (s : State) : Nat := s.arg.toNat

/-- ARG[7:0], the byte value of BR_FIND_BYTE (R143). -/
def argByte (s : State) : Byte := s.arg.extractLsb' 0 8

/-- ARG[4:0], the table id of HUFF_PAIR (R143). -/
def argTable (s : State) : BitVec 5 := s.arg.extractLsb' 0 5

/-- ARG[0]: CONT of REPLY, NCH1 of PARSE_SIDEINFO, the table select of HUFF_QUAD (R143). -/
def argBit0 (s : State) : Bool := s.arg.getLsbD 0

/-- A natural number in a 32-bit register: modulo 2^32 (R37, R252, R260). -/
def wordOfNat (n : Nat) : Word := BitVec.ofNat 32 n

/-- `sext_32` of a signed value (R11, R344). -/
def wordOfInt (z : Int) : Word := BitVec.ofInt 32 z

/-- A signed value as a byte: 0x00, 0x01 or 0xFF for 0, 1, -1 (R346). -/
def byteOfInt (z : Int) : Byte := BitVec.ofInt 8 z

/-- The channels of a frame with `nch` channels, in order (R48). -/
def chans (nch : Nat) : List Chan := if nch = 1 then [.c0] else [.c0, .c1]

/-- The granule-channel parts of a frame in main-data order: (gr 0, ch 0), (gr 0, ch 1), (gr 1, ch 0), (gr 1, ch 1),
without ch 1 when nch = 1 (R167). -/
def parts (nch : Nat) : List (Gran × Chan) :=
  (chans nch).map (fun c => (.g0, c)) ++ (chans nch).map (fun c => (.g1, c))

/-- Whether channel `c` exists on a frame of `nch` channels (R146). -/
def chanLegal (nch : Nat) (c : Chan) : Bool :=
  match c with
  | .c0 => true
  | .c1 => decide (nch ≠ 1)

end Sys2Proof.Machine
end

