-- ==== Sys2Proof/Machine/Flags.lean ====
section
/-! DEFINITION. The computed registers and flags: STATUS (R38), the ERR word (R39, R621, R622), CKPT_INFO (R51), the bits
of IRQ_STATUS and the interrupt line (R49). -/

namespace Sys2Proof.Machine

/-- The error code of R621. -/
def Err.code : Err → BitVec 8
  | .unexpectedEnd => 1
  | .misalignedRead => 2
  | .badSync => 3
  | .badId => 4
  | .badLayer => 5
  | .freeFormatBitrate => 6
  | .badBitrate => 7
  | .reservedSampleRate => 8
  | .reservedEmphasis => 9
  | .reservedBlockType => 10
  | .inconsistentSwitchPoint => 11
  | .reservoirInsufficient => 12
  | .badRegionTable => 13
  | .part3Overrun => 14
  | .illegalScfsiOnShortBlock => 15
  | .badHuffmanCode => 16
  | .illegalCommand => 17
  | .busy => 18
  | .stageNotReady => 19

/-- The class number of R621. -/
def ErrClass.code : ErrClass → BitVec 3
  | .stream => 1
  | .reservoir => 2
  | .spectral => 3
  | .command => 4

/-- The class of an error (R621). UnexpectedEnd is a stream error, or a spectral one when main data is being decoded
(`main`, R433). -/
def Err.cls (main : Bool) : Err → ErrClass
  | .unexpectedEnd => if main then .spectral else .stream
  | .misalignedRead => .stream
  | .badSync => .stream
  | .badId => .stream
  | .badLayer => .stream
  | .freeFormatBitrate => .stream
  | .badBitrate => .stream
  | .reservedSampleRate => .stream
  | .reservedEmphasis => .stream
  | .reservedBlockType => .stream
  | .inconsistentSwitchPoint => .stream
  | .reservoirInsufficient => .reservoir
  | .badRegionTable => .spectral
  | .part3Overrun => .spectral
  | .illegalScfsiOnShortBlock => .spectral
  | .badHuffmanCode => .spectral
  | .illegalCommand => .command
  | .busy => .command
  | .stageNotReady => .command

/-- The ERR word: OPC [23:16], CLASS [10:8], CODE [7:0], reserved bits 0 (R39, R622). -/
def errWord (opc : BitVec 8) (c : ErrClass) (e : Err) : Word := 0#8 ++ opc ++ 0#5 ++ c.code ++ e.code

/-- MODE as STATUS[1:0] (R38). -/
def Mode.code : Mode → BitVec 2
  | .idle => 0
  | .running => 1
  | .checkpoint => 2
  | .done => 3

/-- The length in bits of a reader's stream: 8 * IN_LEN or 8 * |MDBUF| (R250). -/
def streamLen (s : State) : Reader → Nat
  | .inp => 8 * s.inLen.toNat
  | .md => 8 * s.mdbuf.length

/-- The position of a reader (R40, R41). -/
def readerPos (s : State) : Reader → Nat
  | .inp => s.inPos
  | .md => s.mdPos

/-- eof() of a reader: IN_EOF for BR_IN, MD_EOF for BR_MD (R38, R261). -/
def eof (s : State) (r : Reader) : Bool := decide (streamLen s r ≤ readerPos s r)

/-- The STATUS word (R38), most significant field first. -/
def statusWord (s : State) : Word :=
  0#16 ++ s.err.extractLsb' 0 8 ++ bit s.mdValid ++ bit s.frmValid ++ bit s.stopped ++ bit s.found
    ++ bit (eof s .md) ++ bit (eof s .inp) ++ s.mode.code

/-- The CKPT_INFO word of a frame of `nch` channels whose decode failed with `fail`, or did not fail (R51). -/
def ckptWord (nch : Nat) (fail : Option Err) : Word :=
  let code : BitVec 8 := match fail with
    | none => 0
    | some e => e.code
  0#16 ++ code ++ 0#6 ++ bit (decide (nch ≠ 1)) ++ bit fail.isNone

/-- IRQ_STATUS.CKPT (R49). -/
def irqCkpt : BitVec 3 := 0b001

/-- IRQ_STATUS.DONE (R49). -/
def irqDone : BitVec 3 := 0b010

/-- IRQ_STATUS.ERR (R49). -/
def irqErr : BitVec 3 := 0b100

/-- The interrupt output `irq` (R49, R629). -/
def irqLine (s : State) : Bool := decide (s.irqStatus &&& s.irqEnable ≠ 0)

end Sys2Proof.Machine
end

