-- ==== Sys2Proof/Machine/Ops.lean ====
section
/-! DEFINITION. The named operations: the bit reader's primitives (R104-R110, R250-R258), taking an exception (R620,
R622) and acknowledging one (R628), the check a command passes first (R623) and the register window (R33). -/

namespace Sys2Proof.Machine

/-! ## The bit reader -/

/-- The stream of a reader: its length in bits and its bytes (R250). -/
structure Src where
  len  : Nat
  byte : Nat → Byte

/-- The byte of IN at address `a`: the memory's below IN_MAX (R100, R101), a free value where there is none (log 21). -/
def inByte (s : State) (a : Nat) : Byte := if a < s.cfg.inMax then s.mem.read a else Config.absentByte a

/-- The stream of reader `r`: IN[0 .. IN_LEN-1] or MDBUF (R250, R104). -/
def src (s : State) : Reader → Src
  | .inp => ⟨streamLen s .inp, inByte s⟩
  | .md => ⟨streamLen s .md, fun a => s.mdbuf.getD a 0⟩

/-- The bit at position `q`: bit 7 - (q mod 8) of byte floor(q / 8) (R9, R105). -/
def bitAt (src : Src) (q : Nat) : Nat := (src.byte (q / 8)).toNat / 2 ^ (7 - q % 8) % 2

/-- The `n` bits at position `p` as an unsigned integer, first bit most significant (R105). -/
def bitsAt (src : Src) (p : Nat) : Nat → Nat
  | 0 => 0
  | n + 1 => 2 * bitsAt src p n + bitAt src (p + n)

/-- BitRead(s, n) (R251). -/
def bitRead (src : Src) (n : Nat) : Rd Nat := fun p =>
  if n = 0 then .ok 0 p
  else if src.len < p + n then .err .unexpectedEnd p
  else .ok (bitsAt src p n) (p + n)

/-- A BitRead of a field `u_w` (R10). -/
def readField (src : Src) (w : Nat) : Rd (BitVec w) :=
  (bitRead src w).bind fun v => Act.pure (BitVec.ofNat w v)

/-- A BitRead of a one-bit flag. -/
def readFlag (src : Src) : Rd Bool :=
  (bitRead src 1).bind fun v => Act.pure (decide (v = 1))

/-- The `n` bytes at byte address `a` in address order (R104). -/
def bytesAt (src : Src) (a n : Nat) : List Byte := table n fun k => src.byte (a + k)

/-- ByteRead(s, n) (R254). At an aligned position past the end, where the host has lowered IN_LEN, ByteRead(s, 0) returns
the empty sequence, as R254's words say; its pseudocode would raise UnexpectedEnd there. DEDUCED (log 19). -/
def byteRead (src : Src) (n : Nat) : Rd (List Byte) := fun p =>
  if p % 8 ≠ 0 then .err .misalignedRead p
  else if n = 0 then .ok [] p
  else if src.len < p + 8 * n then .err .unexpectedEnd (max p src.len)
  else .ok (bytesAt src (p / 8) n) (p + 8 * n)

/-- Seek(s, p): clamped to the stream's length, never an error (R256). -/
def seekTo (src : Src) (p : Nat) : Rd Unit := fun _ => .ok () (min p src.len)

/-- The least `j' ≥ j` among the next `n` bytes whose byte is `v`. -/
def findFrom (src : Src) (v : Byte) : Nat → Nat → Option Nat
  | 0, _ => none
  | n + 1, j => if src.byte j = v then some j else findFrom src v n (j + 1)

/-- FindByte(s, v) (R258): the scan starts at the first byte boundary at or after the position; a byte found becomes the
position, and a scan that finds none leaves it. -/
def findByte (src : Src) (v : Byte) : Rd (Option Nat) := fun p =>
  let b0 := (p + 7) / 8
  match findFrom src v (src.len / 8 - b0) b0 with
  | some j => .ok (some j) (8 * j)
  | none => .ok none p

/-- The state with the position of reader `r` at `p`. -/
def setPos (s : State) (r : Reader) (p : Nat) : State :=
  match r with
  | .inp => { s with inPos := p }
  | .md => { s with mdPos := p }

/-- An action of the block (a command or a part of one). -/
abbrev Cmd (α : Type) := Act State α

/-- A reader action as an action of the block: it reads the stream of `r` and moves its position, on an error too
(R620). -/
def onReader {α : Type} (r : Reader) (f : Src → Rd α) : Cmd α := fun s =>
  match f (src s r) (readerPos s r) with
  | .ok a p => .ok a (setPos s r p)
  | .err e p => .err e (setPos s r p)

/-! ## Exceptions -/

/-- Record(E, class, opc), the block's exception entry (R622, R627): ERR takes the code, class and opcode, IRQ_STATUS.ERR
is set, and nothing else changes. There is no vector, no mode change and no saved position (R627). -/
def record (e : Err) (c : ErrClass) (opc : BitVec 8) (s : State) : State :=
  { s with err := errWord opc c e, irqStatus := s.irqStatus ||| irqErr }

/-- The host's acknowledgement, the only return from an exception (R628): the IRQ_STATUS bits written as 1 are cleared
(R49). ERR is kept. -/
def acknowledge (v : BitVec 3) (s : State) : State := { s with irqStatus := s.irqStatus &&& ~~~v }

/-- Whether a word of opcode `opc` is refused with Busy in a mode (R35): in RUNNING all but RESET, in CHECKPOINT all but
REPLY and RESET. -/
def modeRefuses (m : Mode) (opc : BitVec 8) : Bool :=
  match m with
  | .idle => false
  | .done => false
  | .running => decide (opc ≠ 0x01)
  | .checkpoint => decide (opc ≠ 0x01) && decide (opc ≠ 0x04)

/-- A command of opcode `opc` (R623): refused with Busy where the mode says so, else its body runs; an error the body
raises is recorded with its class and the command's opcode (R620). `main` says that the command decodes main data, where
UnexpectedEnd is a spectral error (R621). Every outcome is a next state. -/
def command (opc : BitVec 8) (main : Bool) (body : Cmd Unit) (s : State) : Host.Outcome State Fault Refusal :=
  if modeRefuses s.mode opc then .next (record .busy .command opc s)
  else
    match body s with
    | .ok _ t => .next t
    | .err e t => .next (record e (e.cls main) opc t)

/-- A word that is no command (R140, R624): Busy where the mode refuses its opcode, else IllegalCommand. -/
def illegalWord (w : Word) (s : State) : State :=
  if modeRefuses s.mode (opcOf w) then record .busy .command (opcOf w) s
  else record .illegalCommand .command (opcOf w) s

/-! ## Preconditions and results -/

/-- Step 4 of R623: a current frame is needed. -/
def needFrame : Cmd Unit := Act.need (fun s => s.frmValid) .stageNotReady

/-- Steps 4 and 5 of R623: a current frame, then a channel the frame has (R146). -/
def needPart (c : Chan) : Cmd Unit :=
  needFrame.bind fun _ => Act.need (fun s => chanLegal s.frm.nch c) .illegalCommand

/-- Step 6 of R623: a stage precondition. -/
def needStage (p : State → Bool) : Cmd Unit := Act.need p .stageNotReady

/-- The result registers take `v0` and `v1` (R37). -/
def setResults (v0 v1 : Word) (s : State) : State := { s with result0 := v0, result1 := v1 }

/-- RESULT0 takes `v`; RESULT1 is unchanged (R37). -/
def setResult0 (v : Word) (s : State) : State := { s with result0 := v }

/-! ## The register window -/

/-- The value of the register at byte offset `off` (R33). CMD reads 0, reserved bits read 0, and an offset that holds no
register reads 0. -/
def readReg (s : State) (off : Nat) : Word :=
  match off with
  | 0x04 => s.arg
  | 0x08 => s.result0
  | 0x0C => s.result1
  | 0x10 => statusWord s
  | 0x14 => s.err
  | 0x18 => s.bandMask
  | 0x1C => s.frameCnt
  | 0x20 => s.inLen
  | 0x24 => s.irqStatus.zeroExtend 32
  | 0x28 => s.irqEnable.zeroExtend 32
  | 0x2C => s.ckptInfo
  | _ => 0

/-- Whether the host may write IN and IN_LEN: not while a run is active (R680). -/
def hostMayWriteInput (s : State) : Bool := decide (s.mode = .idle ∨ s.mode = .done)

/-- A host write of IN_LEN outside a run (R47, R680): the register takes any value. That it be at most IN_MAX is a
precondition of a run and a duty of the host (R47, R676), which the register does not check (log 21). -/
def writeInLen (v : Word) (s : State) : Host.Outcome State Fault Refusal :=
  if !hostMayWriteInput s then .refused .hostDutyDuringRun
  else .next { s with inLen := v }

/-- A host write of a register other than CMD (R33): ARG, BAND_MASK, IN_LEN, IRQ_STATUS (write 1 to clear) and
IRQ_ENABLE; any other write is ignored, and so are reserved bits. -/
def writeReg (off : Nat) (v : Word) (s : State) : Host.Outcome State Fault Refusal :=
  match off with
  | 0x04 => .next { s with arg := v }
  | 0x18 => .next { s with bandMask := v }
  | 0x20 => writeInLen v s
  | 0x24 => .next (acknowledge (v.extractLsb' 0 3) s)
  | 0x28 => .next { s with irqEnable := v.extractLsb' 0 3 }
  | _ => .next s

/-- A host write of byte `b` to IN at address `a` (R101, R119, R680). -/
def writeInput (a : Nat) (b : Byte) (s : State) : Host.Outcome State Fault Refusal :=
  if !hostMayWriteInput s then .refused .hostDutyDuringRun
  else if s.cfg.inMax ≤ a then .fault .inAddressAbsent
  else .next { s with mem := s.mem.write a b }

/-! ## Reset -/

/-- Power-on (R670, R671): every piece of state at its value of R64. The named parameters, and the model's list of moves
and of values read, are no state of the block and stay. -/
def powerOn (s : State) : State :=
  { State.reset with cfg := s.cfg, moves := s.moves, readLog := s.readLog }

end Sys2Proof.Machine
end

