-- ==== Sys2Proof/Machine/BitReader.lean ====
section
/-! DEFINITION. The bit-reader commands (41_bit_reader.md). -/

namespace Sys2Proof.Machine

/-- The first up to four bytes as a word, byte 0 in bits [31:24], missing bytes 0 (R255). -/
def firstFour (b : List Byte) : Word := b.getD 0 0 ++ b.getD 1 0 ++ b.getD 2 0 ++ b.getD 3 0

/-- BR_READ_BITS (R252). RESULT1 is the position after the read, as R252's pseudocode says; rows of 95_test_vectors.md
have the width N there. DEDUCED (log 17). -/
def execBrReadBits (r : Reader) (n : BitVec 6) (s : State) : Host.Outcome State Fault Refusal :=
  command 0x10 false
    ((Act.need (fun _ => decide (n.toNat ≤ 32)) .illegalCommand).bind fun _ =>
      (onReader r fun src => bitRead src n.toNat).bind fun v =>
      Act.modify fun s => setResults (wordOfNat v) (wordOfNat (readerPos s r)) s) s

/-- BR_READ_BYTES (R255). -/
def execBrReadBytes (r : Reader) (s : State) : Host.Outcome State Fault Refusal :=
  command 0x11 false
    ((onReader r fun src => byteRead src (argNat s)).bind fun b =>
      Act.modify fun s => setResults (firstFour b) s.arg { s with outBytes := s.outBytes ++ [b] }) s

/-- BR_SEEK (R257). -/
def execBrSeek (r : Reader) (s : State) : Host.Outcome State Fault Refusal :=
  command 0x12 false
    ((onReader r fun src => seekTo src (argNat s)).bind fun _ =>
      Act.modify fun s => setResult0 (wordOfNat (readerPos s r)) s) s

/-- BR_FIND_BYTE (R259). -/
def execBrFindByte (r : Reader) (s : State) : Host.Outcome State Fault Refusal :=
  command 0x13 false
    ((onReader r fun src => findByte src (argByte s)).bind fun j =>
      Act.modify fun s =>
        match j with
        | some j => setResults (wordOfNat j) (wordOfNat (readerPos s r)) { s with found := true }
        | none => setResults 0xFFFFFFFF (wordOfNat (readerPos s r)) { s with found := false }) s

/-- BR_TELL (R260). -/
def execBrTell (r : Reader) (s : State) : Host.Outcome State Fault Refusal :=
  command 0x14 false
    (Act.modify fun s => setResults (wordOfNat (readerPos s r)) (wordOfNat (streamLen s r)) s) s

/-- BR_EOF (R261). -/
def execBrEof (r : Reader) (s : State) : Host.Outcome State Fault Refusal :=
  command 0x15 false (Act.modify fun s => setResult0 (if eof s r then 1 else 0) s) s

end Sys2Proof.Machine
end

