-- ==== Sys2Proof/Machine/Tables.lean ====
section
/-! DEFINITION. The tables: bitrates and sample rates (R291) and scale-factor bands (R392, R393) as the parameters give
them, and the constant ones: scale-factor widths (R420), PRETAB (R462), antialias coefficients (R540) and the Huffman
code tables (R390-R404). -/

namespace Sys2Proof.Machine

/-- BITRATE_KBPS[i] (R291). Indices 0 and 15 are refused before any use (R292). -/
def bitrateKbps (p : Config.Params) (i : BitVec 4) : Nat := p.bitrateKbps.getD i.toNat 0

/-- SAMPLE_RATE_HZ[i] (R291). Index 3 is refused before any use (R292). -/
def sampleRateHz (p : Config.Params) (i : BitVec 2) : Nat := p.sampleRateHz.getD i.toNat 0

/-- The band tables at a sampling index (R392, R393). Index 3 is refused before any use (R292). -/
def bandsOf (p : Config.Params) (i : BitVec 2) : Config.Bands := p.bands.getD i.toNat ⟨[], []⟩

/-- sfbL[b] (R392). -/
def sfbLAt (t : Config.Bands) (b : Nat) : Nat := t.long.getD b 576

/-- sfbS[b] (R393). -/
def sfbSAt (t : Config.Bands) (b : Nat) : Nat := t.short.getD b 192

/-- The band b of a boundary table with `tab[b] ≤ i < tab[b+1]`: the number of upper boundaries at or below i. -/
def bandOf (tab : List Nat) (i : Nat) : Nat := tab.tail.countP (fun t => decide (t ≤ i))

/-- SLEN: (slen1, slen2) by scalefac_compress (R420). -/
def slen (i : BitVec 4) : Nat × Nat :=
  ([0, 0, 0, 0, 3, 1, 1, 1, 2, 2, 2, 3, 3, 3, 4, 4].getD i.toNat 0,
   [0, 1, 2, 3, 0, 1, 2, 3, 1, 2, 3, 1, 2, 3, 2, 3].getD i.toNat 0)

/-- PRETAB[b] for long bands 0..20, and 0 for band 21 (R462). -/
def pretab (b : Nat) : Nat := [0, 0, 0, 0, 0, 0, 0, 0, 0, 0, 0, 1, 1, 1, 1, 2, 2, 3, 3, 3, 2, 0].getD b 0

/-- The antialias coefficient c_i in ten-thousandths (R540). -/
def aaCoeff (i : Nat) : Int := [-6000, -5350, -3300, -1850, -950, -410, -142, -37].getD i 0

/-! ## Huffman code tables -/

/-- The codeword of `len` bits `code` for the pair (x, y). -/
def cw (len code x y : Nat) : Code (Nat × Nat) := ⟨len, code, (x, y)⟩

/-- Code table 1 (R394). -/
def hcode1 : PairTable :=
  [cw 1 0b1 0 0, cw 3 0b001 0 1,
   cw 2 0b01 1 0, cw 3 0b000 1 1]

/-- Code table 2 (R395). -/
def hcode2 : PairTable :=
  [cw 1 0b1 0 0, cw 3 0b010 0 1, cw 6 0b000001 0 2,
   cw 3 0b011 1 0, cw 3 0b001 1 1, cw 5 0b00001 1 2,
   cw 5 0b00011 2 0, cw 5 0b00010 2 1, cw 6 0b000000 2 2]

/-- Code table 3 (R396). -/
def hcode3 : PairTable :=
  [cw 2 0b11 0 0, cw 2 0b10 0 1, cw 6 0b000001 0 2,
   cw 3 0b001 1 0, cw 2 0b01 1 1, cw 5 0b00001 1 2,
   cw 5 0b00011 2 0, cw 5 0b00010 2 1, cw 6 0b000000 2 2]

/-- Code table 5 (R397). -/
def hcode5 : PairTable :=
  [cw 1 0b1 0 0, cw 3 0b010 0 1, cw 6 0b000110 0 2, cw 7 0b0000101 0 3,
   cw 3 0b011 1 0, cw 3 0b001 1 1, cw 6 0b000100 1 2, cw 7 0b0000100 1 3,
   cw 6 0b000111 2 0, cw 6 0b000101 2 1, cw 7 0b0000111 2 2, cw 8 0b00000001 2 3,
   cw 7 0b0000110 3 0, cw 6 0b000001 3 1, cw 7 0b0000001 3 2, cw 8 0b00000000 3 3]

/-- Code table 6 (R398). -/
def hcode6 : PairTable :=
  [cw 3 0b111 0 0, cw 3 0b011 0 1, cw 5 0b00101 0 2, cw 7 0b0000001 0 3,
   cw 3 0b110 1 0, cw 2 0b10 1 1, cw 4 0b0011 1 2, cw 5 0b00010 1 3,
   cw 4 0b0101 2 0, cw 4 0b0100 2 1, cw 5 0b00100 2 2, cw 6 0b000001 2 3,
   cw 6 0b000011 3 0, cw 5 0b00011 3 1, cw 6 0b000010 3 2, cw 7 0b0000000 3 3]

/-- `code(t)` (R390): the code table a big-value table id names; ids 16-23 share 16 and ids 24-31 share 24. -/
def codeOfId (t : Nat) : Nat := if t < 16 then t else if t < 24 then 16 else 24

/-- `xmax(t)` (R390). Ids 0, 4 and 14 have no code table. -/
def xmaxOf (t : Nat) : Nat :=
  [0, 1, 2, 2, 0, 3, 3, 5, 5, 5, 7, 7, 7, 15, 0, 15].getD t 15

/-- `linbits(t)` (R390). -/
def linbitsOf (t : Nat) : Nat :=
  [0, 0, 0, 0, 0, 0, 0, 0, 0, 0, 0, 0, 0, 0, 0, 0, 1, 2, 3, 4, 6, 8, 10, 13, 4, 5, 6, 7, 8, 9, 11, 13].getD t 0

/-- The codeword of entry `a` is a prefix of, or equal to, the codeword of entry `b` (R340). -/
def codePrefix {α β : Type} (a : Code α) (b : Code β) : Bool :=
  decide (a.len ≤ b.len) && decide (b.code / 2 ^ (b.len - a.len) = a.code)

/-- No codeword of the table is a prefix of another's (R340, R404). -/
def prefixFree {α : Type} (t : List (Code α)) : Bool :=
  decide (t.Pairwise fun a b => (!codePrefix a b && !codePrefix b a) = true)

/-- The properties of R404 of a code table for magnitudes up to `xmax`: prefix-free, exactly one codeword for each
(x, y), codewords of 1 to 32 bits. -/
def tableOk (xmax : Nat) (t : PairTable) : Bool :=
  prefixFree t
  && t.all (fun c => decide (1 ≤ c.len) && decide (c.len ≤ 32) && decide (c.code < 2 ^ c.len)
      && decide (c.val.1 ≤ xmax) && decide (c.val.2 ≤ xmax))
  && (List.range (xmax + 1)).all (fun x => (List.range (xmax + 1)).all fun y =>
      decide (t.countP (fun c => decide (c.val = (x, y))) = 1))

/-- A table with the properties of R404: every pair's codeword is the 8 bits of 16 x + y. It stands in where a platform
supplies a table without them (log 6). -/
def plainTable (xmax : Nat) : PairTable :=
  (List.range (xmax + 1)).flatMap fun x => (List.range (xmax + 1)).map fun y => cw 8 (16 * x + y) x y

/-- HCODE[t] of an OPEN code table t (R399-R401): the supplied table where it has the properties of R404, which are all
a model may assume of it. The supplied table is a free value, so this ranges over every such table (log 6). -/
def openTable (t : Nat) : PairTable :=
  if tableOk (xmaxOf t) (Config.hcodeSupplied t) then Config.hcodeSupplied t else plainTable (xmaxOf t)

/-- HCODE[code(t)] of a big-value table id t other than 0, 4 and 14 (R341, R390). -/
def hcode (t : Nat) : PairTable :=
  match codeOfId t with
  | 1 => hcode1
  | 2 => hcode2
  | 3 => hcode3
  | 5 => hcode5
  | 6 => hcode6
  | c => openTable c

/-- The codeword of `len` bits `code` for the quad whose bits v, w, x, y are the binary digits of `vwxy`. -/
def qw (len code vwxy : Nat) : Code Nat := ⟨len, code, vwxy⟩

/-- Count1 table A (R402), indexed by 8v + 4w + 2x + y. -/
def quadA : List (Code Nat) :=
  [qw 1 0b1 0b0000, qw 4 0b0101 0b0001, qw 4 0b0100 0b0010, qw 5 0b00101 0b0011,
   qw 4 0b0110 0b0100, qw 6 0b000101 0b0101, qw 5 0b00100 0b0110, qw 6 0b000100 0b0111,
   qw 4 0b0111 0b1000, qw 5 0b00011 0b1001, qw 5 0b00110 0b1010, qw 6 0b000000 0b1011,
   qw 5 0b00111 0b1100, qw 6 0b000010 0b1101, qw 6 0b000011 0b1110, qw 6 0b000001 0b1111]

/-- Count1 table B (R403): four bits, the complement of vwxy. -/
def quadB : List (Code Nat) := table 16 fun v => qw 4 (15 - v) v

/-- The count1 table of a table select: A for 0, B for 1 (R345). -/
def quadTable (sel : Bool) : List (Code Nat) := if sel then quadB else quadA

end Sys2Proof.Machine
end

