-- ==== Sys2Proof/Machine/Parser.lean ====
section
/-! DEFINITION. The header and side-info parser and the frame record (42_parser_reservoir.md, sections 1-3), and the
commands PARSE_HEADER, PARSE_SIDEINFO and PARSE_FRAME. -/

namespace Sys2Proof.Machine

/-! ## Header -/

/-- ParseHeader() (R281): the 13 fields in order, each checked right after it is read (R280, R292). -/
def parseHeader (src : Src) : Rd Header :=
  ((readField src 12).check (· == 0xFFF) .badSync).bind fun sync =>
  ((readField src 1).check (· == 1) .badId).bind fun id =>
  ((readField src 2).check (· == 1) .badLayer).bind fun layer =>
  (readField src 1).bind fun protection =>
  (((readField src 4).check (· != 0) .freeFormatBitrate).check (· != 15) .badBitrate).bind fun bitrateIndex =>
  ((readField src 2).check (· != 3) .reservedSampleRate).bind fun samplingIndex =>
  (readField src 1).bind fun padding =>
  (readField src 1).bind fun priv =>
  (readField src 2).bind fun mode =>
  (readField src 2).bind fun modeExt =>
  (readField src 1).bind fun copyright =>
  (readField src 1).bind fun original =>
  ((readField src 2).check (· != 2) .reservedEmphasis).bind fun emphasis =>
  Act.pure { sync, id, layer, protection, bitrateIndex, samplingIndex, padding, priv, mode, modeExt, copyright, original,
             emphasis }

/-- WriteHeader(H) (R305): the fields at the places of R161. -/
def writeHeader (h : Header) : Word :=
  h.sync ++ h.id ++ h.layer ++ h.protection ++ h.bitrateIndex ++ h.samplingIndex ++ h.padding ++ h.priv ++ h.mode
    ++ h.modeExt ++ h.copyright ++ h.original ++ h.emphasis

/-- The channel count of a frame: 1 for mode 3, else 2 (R48, R293). -/
def nchOf (h : Header) : Nat := if h.mode = 3 then 1 else 2

/-- `ms_on` (R293). -/
def msOn (h : Header) : Bool := decide (h.mode = 1) && h.modeExt.getLsbD 1

/-- `is_on` (R293). -/
def isOn (h : Header) : Bool := decide (h.mode = 1) && h.modeExt.getLsbD 0

/-- FrameSize(H) in bytes (R294). -/
def frameSize (p : Config.Params) (h : Header) : Nat :=
  144000 * bitrateKbps p h.bitrateIndex / sampleRateHz p h.samplingIndex + h.padding.toNat

/-! ## Side information -/

/-- The fields of a granule-channel block that follow split = 1 (R298, R299), given the fields before it. -/
def parseSplitFields (src : Src) : Rd (BitVec 2 × Bool × Tri (BitVec 5) × Tri (BitVec 3)) :=
  ((readField src 2).check (· != 0) .reservedBlockType).bind fun blockType =>
  ((readFlag src).check (fun sw => !(sw && blockType != 2)) .inconsistentSwitchPoint).bind fun switchPoint =>
  (readField src 5).bind fun t0 =>
  (readField src 5).bind fun t1 =>
  (readField src 3).bind fun g0 =>
  (readField src 3).bind fun g1 =>
  (readField src 3).bind fun g2 =>
  Act.pure (blockType, switchPoint, ⟨t0, t1, 0⟩, ⟨g0, g1, g2⟩)

/-- The fields of a granule-channel block that follow split = 0 (R298). -/
def parseNormalFields (src : Src) : Rd (Tri (BitVec 5) × BitVec 4 × BitVec 3) :=
  (readField src 5).bind fun t0 =>
  (readField src 5).bind fun t1 =>
  (readField src 5).bind fun t2 =>
  (readField src 4).bind fun ra1 =>
  (readField src 3).bind fun ra2 =>
  Act.pure (⟨t0, t1, t2⟩, ra1, ra2)

/-- The derived region_address1 of a split block (R299). -/
def splitRegionAddress1 (blockType : BitVec 2) (switchPoint : Bool) : BitVec 4 :=
  if blockType = 2 ∧ switchPoint = false then 8 else 7

/-- One granule-channel block (R166, R298). -/
def parseGranInfo (src : Src) : Rd GranInfo :=
  (readField src 12).bind fun part23Length =>
  (readField src 9).bind fun bigValues =>
  (readField src 8).bind fun globalGain =>
  (readField src 4).bind fun scalefacCompress =>
  (readFlag src).bind fun split =>
  (if split then
    (parseSplitFields src).bind fun (blockType, switchPoint, tableSelect, subblockGain) =>
    Act.pure (blockType, switchPoint, tableSelect, subblockGain, splitRegionAddress1 blockType switchPoint,
      20 - splitRegionAddress1 blockType switchPoint)
  else
    (parseNormalFields src).bind fun (tableSelect, ra1, ra2) =>
    Act.pure ((0 : BitVec 2), false, tableSelect, (⟨0, 0, 0⟩ : Tri (BitVec 3)), ra1, ra2.zeroExtend 4)).bind
    fun (blockType, switchPoint, tableSelect, subblockGain, regionAddress1, regionAddress2) =>
  (readFlag src).bind fun preflag =>
  (readFlag src).bind fun scalefacScale =>
  (readFlag src).bind fun count1Table =>
  Act.pure { part23Length, bigValues, globalGain, scalefacCompress, split, blockType, switchPoint, tableSelect,
             subblockGain, regionAddress1, regionAddress2, preflag, scalefacScale, count1Table }

/-- The private bits: 5 on a mono frame, 3 on another (R164, R165). -/
def parsePrivateBits (src : Src) (nch : Nat) : Rd (BitVec 5) :=
  (bitRead src (if nch = 1 then 5 else 3)).bind fun v => Act.pure (BitVec.ofNat 5 v)

/-- ParseSideInfo(nch) (R298). -/
def parseSideInfo (src : Src) (nch : Nat) : Rd SideInfo :=
  (readField src 9).bind fun mainDataEnd =>
  (parsePrivateBits src nch).bind fun privateBits =>
  (Act.repeat (Act.repeat (readFlag src) 4) nch).bind fun scfsi =>
  (Act.repeat (parseGranInfo src) nch).bind fun gr0 =>
  (Act.repeat (parseGranInfo src) nch).bind fun gr1 =>
  Act.pure { mainDataEnd, privateBits, scfsi, gr0, gr1 }

/-! ## Frame -/

/-- The CRC word, present when protection = 0 (R296). It is never checked. -/
def parseCrc (src : Src) (h : Header) : Rd (Option (BitVec 16)) :=
  if h.protection = 0 then (readField src 16).bind fun c => Act.pure (some c) else Act.pure none

/-- `hlen`: the bytes of header, CRC word and side info (R297). -/
def headLen (crc : Option (BitVec 16)) (nch : Nat) : Nat :=
  4 + (if crc.isNone then 0 else 2) + (if nch = 1 then 17 else 32)

/-- ParseFrame() (R302). The frame index is set by CommitFrame. -/
def parseFrame (cfg : Config.Params) (src : Src) : Rd Frame := fun p =>
  ((parseHeader src).bind fun hdr =>
    (parseCrc src hdr).bind fun crc =>
    (parseSideInfo src (nchOf hdr)).bind fun si =>
    (byteRead src (frameSize cfg hdr - headLen crc (nchOf hdr))).bind fun payload =>
    Act.pure { fidx := 0, off := p / 8, hdr, crc, nch := nchOf hdr, si, hsLen := headLen crc (nchOf hdr), payload,
               size := frameSize cfg hdr }) p

/-- Every MDST and TAG at NONE and MD_VALID = 0 (R303, R310). -/
def clearStages (s : State) : State :=
  { s with mdst := .const .none, tag := .const .none, mdValid := false }

/-- The element of OUT_FRAMES for a frame: its record and its raw header and side-info bytes (R60, R206). -/
def outFrameOf (s : State) (f : Frame) : OutFrame := ⟨f, bytesAt (src s .inp) f.off f.hsLen⟩

/-- CommitFrame(r) (R303). -/
def commitFrame (r : Frame) (s : State) : State :=
  let f := { r with fidx := s.frameCnt.toNat }
  clearStages { s with
    frm := f
    frameCnt := s.frameCnt + 1
    frmValid := true
    mdbuf := []
    mdPos := 0
    mdRef := []
    outFrames := s.outFrames ++ [outFrameOf s f] }

/-! ## Commands -/

/-- PARSE_HEADER (R295). -/
def execParseHeader (s : State) : Host.Outcome State Fault Refusal :=
  command 0x20 false
    ((onReader .inp parseHeader).bind fun h =>
      Act.modify fun t =>
        setResults (wordOfNat (bitsAt (src s .inp) s.inPos 32)) (wordOfNat (frameSize t.cfg h)) t) s

/-- PARSE_SIDEINFO (R301). -/
def execParseSideinfo (s : State) : Host.Outcome State Fault Refusal :=
  command 0x21 false
    ((onReader .inp fun src => parseSideInfo src (if argBit0 s then 2 else 1)).bind fun si =>
      Act.modify fun t =>
        setResults (si.mainDataEnd.zeroExtend 32) (wordOfNat ((t.inPos - s.inPos) / 8)) t) s

/-- PARSE_FRAME (R304). -/
def execParseFrame (s : State) : Host.Outcome State Fault Refusal :=
  command 0x22 false
    ((onReader .inp (parseFrame s.cfg)).bind fun r =>
      Act.modify fun s =>
        let t := commitFrame r s
        setResults (wordOfNat t.frm.fidx) (wordOfNat t.frm.size) t) s

end Sys2Proof.Machine
end

