-- ==== Sys2Proof/Machine/Reservoir.lean ====
section
/-! DEFINITION. The bit reservoir (42_parser_reservoir.md, section 4): Resolve, ByteRefs, HistPush, and the commands
RESOLVE and HIST_PUSH. -/

namespace Sys2Proof.Machine

/-- HIST.total: the bytes held (R43). -/
def histTotal (h : List HistEntry) : Nat := (h.map fun e => e.bytes.length).sum

/-- The history's bytes in order, `C` of R310. -/
def histBytes (h : List HistEntry) : List Byte := h.flatMap fun e => e.bytes

/-- The loop of ByteRefs (R311) over the entries from the newest back: `need` bytes are still to be named. An entry that
supplies no byte gets no triple. -/
def byteRefsFrom : List HistEntry → Nat → List ByteRef → List ByteRef
  | [], _, refs => refs
  | e :: es, need, refs =>
    if need = 0 then refs
    else
      let t := min need e.bytes.length
      byteRefsFrom es (need - t) (if t = 0 then refs else ⟨e.fidx, e.off + e.bytes.length - t, t⟩ :: refs)

/-- ByteRefs(k) (R311): the history bytes a resolution borrowed, oldest first. -/
def byteRefs (h : List HistEntry) (k : Nat) : List ByteRef := byteRefsFrom h.reverse k []

/-- Resolve() (R310). With too little history it writes nothing (R312). -/
def resolve : Cmd Unit := fun s =>
  let k := s.frm.si.mainDataEnd.toNat
  if histTotal s.hist < k then .err .reservoirInsufficient s
  else
    let c := histBytes s.hist
    let refs := byteRefs s.hist k
    .ok () (clearStages { s with
      mdbuf := c.drop (c.length - k) ++ s.frm.payload
      mdPos := 0
      mdRef := refs
      outByteref := s.outByteref ++ [⟨s.frm.fidx, refs⟩] })

/-- The oldest entries dropped for as long as the rest still holds `keep` bytes (R314). -/
def dropOldest (keep : Nat) : List HistEntry → List HistEntry
  | [] => []
  | [e] => [e]
  | e :: f :: es => if keep ≤ histTotal (f :: es) then dropOldest keep (f :: es) else e :: f :: es

/-- HistPush() (R314). -/
def histPush (s : State) : State :=
  let pushed := s.hist ++ [⟨s.frm.fidx, s.frm.off + s.frm.hsLen, s.frm.payload⟩]
  { s with hist := dropOldest s.cfg.reservoirKeep pushed }

/-- RESOLVE (R313). -/
def execResolve (s : State) : Host.Outcome State Fault Refusal :=
  command 0x23 false
    (needFrame.bind fun _ => resolve.bind fun _ =>
      Act.modify fun s => setResults (wordOfNat s.mdbuf.length) (s.frm.si.mainDataEnd.zeroExtend 32) s) s

/-- HIST_PUSH (R315). -/
def execHistPush (s : State) : Host.Outcome State Fault Refusal :=
  command 0x24 false
    (needFrame.bind fun _ =>
      Act.modify fun s =>
        let t := histPush s
        setResults (wordOfNat (histTotal t.hist)) (wordOfNat t.hist.length) t) s

end Sys2Proof.Machine
end

