-- ==== Sys2Proof/Machine/Huffman.lean ====
section
/-! DEFINITION. The Huffman decoder (43_huffman.md): codewords, pairs, quads, one granule and channel, and the commands
HUFF_PAIR, HUFF_QUAD and HUFF_GRANULE. -/

namespace Sys2Proof.Machine

/-! ## Codewords -/

/-- The length of the longest codeword of a table. -/
def longest {α : Type} (t : List (Code α)) : Nat := (t.map fun c => c.len).foldl max 0

/-- The loop of Huff (R340): `c` is the string of the bits read so far. Each turn reads one bit; the loop ends with the
value of the codeword c equals, or with BadHuffmanCode when c is no codeword and no prefix of one. `fuel` is above the
number of bits any codeword has, so it never ends the loop. -/
def huffFrom {α : Type} (src : Src) (t : List (Code α)) : Nat → Code Unit → Rd α
  | 0, _ => Act.raise .badHuffmanCode
  | fuel + 1, c =>
    (bitRead src 1).bind fun b =>
      let c' : Code Unit := ⟨c.len + 1, 2 * c.code + b, ()⟩
      match t.find? (fun e => decide (e.len = c'.len ∧ e.code = c'.code)) with
      | some e => Act.pure e.val
      | none => if t.any (codePrefix c') then huffFrom src t fuel c' else Act.raise .badHuffmanCode

/-- Huff(s, T) (R340). -/
def huff {α : Type} (src : Src) (t : List (Code α)) : Rd α := huffFrom src t (longest t + 1) ⟨0, 0, ()⟩

/-! ## Pairs -/

/-- The escape of a magnitude: 15 in a table with linbits > 0 is followed by that many bits, added to 15 (R343). -/
def readEscape (src : Src) (lb x : Nat) : Rd Nat :=
  if 0 < lb ∧ x = 15 then (bitRead src lb).bind fun e => Act.pure (15 + e) else Act.pure x

/-- The sign of a magnitude: a bit after each nonzero one, 1 for negative (R172, R343). -/
def readSign (src : Src) (x : Nat) : Rd Int :=
  if x ≠ 0 then (bitRead src 1).bind fun b => Act.pure (if b = 1 then -(x : Int) else (x : Int)) else Act.pure 0

/-- A pair coded with table `t` and escape width `lb`: the codeword, then x's escape and sign, then y's (R343). -/
def pairWith (src : Src) (t : PairTable) (lb : Nat) : Rd (Int × Int) :=
  (huff src t).bind fun (x, y) =>
  (readEscape src lb x).bind fun x =>
  (readSign src x).bind fun sx =>
  (readEscape src lb y).bind fun y =>
  (readSign src y).bind fun sy =>
  Act.pure (sx, sy)

/-- HuffPair(s, t) (R343). -/
def huffPair (src : Src) (t : BitVec 5) : Rd (Int × Int) :=
  if t = 4 ∨ t = 14 then Act.raise .badRegionTable
  else if t = 0 then Act.pure (0, 0)
  else pairWith src (hcode t.toNat) (linbitsOf t.toNat)

/-! ## Quads -/

/-- HuffQuad(s, sel) (R345): the values v, w, x, y in order, each with its sign bit if it is 1. -/
def huffQuad (src : Src) (sel : Bool) : Rd (List Int) :=
  (huff src (quadTable sel)).bind fun q =>
  Act.forEach (readSign src) [q / 8 % 2, q / 4 % 2, q / 2 % 2, q % 2]

/-! ## One granule and channel -/

/-- The shapes of a granule and channel (R421). -/
inductive Shape where
  | long
  | short
  | mixed
deriving DecidableEq, Repr

/-- The shape the side info selects (R421). -/
def shapeOf (gc : GranInfo) : Shape :=
  if gc.split ∧ gc.blockType = 2 then (if gc.switchPoint then .mixed else .short) else .long

/-- The side information of one granule and channel, `SI.gr[gr].ch[ch]` (R54). -/
def granInfo (si : SideInfo) (g : Gran) (c : Chan) : GranInfo :=
  (match g with
    | .g0 => si.gr0
    | .g1 => si.gr1).getD (chanIdx c)
    ⟨0, 0, 0, 0, false, 0, false, ⟨0, 0, 0⟩, ⟨0, 0, 0⟩, 0, 0, false, false, false⟩

/-- The band tables of the current frame's sample rate. -/
def frameBands (s : State) : Config.Bands := bandsOf s.cfg s.frm.hdr.samplingIndex

/-- The region boundaries (r1, r2) (R347, R348). -/
def regionBounds (bands : Config.Bands) (gc : GranInfo) : Nat × Nat :=
  if gc.split then (36, 576)
  else (sfbLAt bands (min 22 (gc.regionAddress1.toNat + 1)),
        sfbLAt bands (min 22 (gc.regionAddress1.toNat + gc.regionAddress2.toNat + 2)))

/-- The table of the pair whose first line is `i` (R349). -/
def regionTable (gc : GranInfo) (r1 r2 i : Nat) : BitVec 5 :=
  gc.tableSelect.get (if i < r1 then 0 else if i < r2 then 1 else 2)

/-- The big-value loop (R351): `n` pairs from pair `p` on, as symbols. -/
def bigValues (src : Src) (gc : GranInfo) (r1 r2 : Nat) : Nat → Nat → Rd (List DiagSym)
  | 0, _ => Act.pure []
  | n + 1, p =>
    Act.get.bind fun start =>
    (huffPair src (regionTable gc r1 r2 (2 * p))).bind fun (x, y) =>
    Act.get.bind fun stop =>
    (bigValues src gc r1 r2 n (p + 1)).bind fun rest =>
    Act.pure (⟨.pair, start, stop - start, [x, y]⟩ :: rest)

/-- The count1 loop (R353-R355), as symbols: quads while the position is below `stop`; one that ends past `stop`, or
meets the end of MDBUF, is discarded and ends the loop. `fuel` is at least the bits left below `stop`, and every quad
takes at least one. -/
def count1Quads (src : Src) (sel : Bool) (stop : Nat) : Nat → Rd (List DiagSym)
  | 0 => Act.pure []
  | fuel + 1 => fun p =>
    if p < stop then
      match huffQuad src sel p with
      | .ok q p' =>
        if stop < p' then .ok [⟨.quadDiscarded, p, p' - p, q⟩] p'
        else ((count1Quads src sel stop fuel).bind fun rest => Act.pure (⟨.quad, p, p' - p, q⟩ :: rest)) p'
      | .err .unexpectedEnd p' => .ok [⟨.quadDiscarded, p, p' - p, []⟩] p'
      | .err e p' => .err e p'
    else .ok [] p

/-- What the decoding of one granule and channel gives: the big-value symbols, the position after them, and the count1
symbols. -/
structure Spectrum where
  pairs  : List DiagSym
  bigEnd : Nat
  quads  : List DiagSym
deriving DecidableEq, Repr

/-- The reads of HuffGranule (R360), from part-3 start `p3` to part end `stop`. -/
def readSpectrum (src : Src) (gc : GranInfo) (r1 r2 p3 stop : Nat) : Rd Spectrum :=
  (seekTo src p3).bind fun _ =>
  (bigValues src gc r1 r2 gc.bigValues.toNat 0).bind fun pairs =>
  (Act.need (fun p => decide (p ≤ stop)) .part3Overrun).bind fun _ =>
  Act.get.bind fun bigEnd =>
  (count1Quads src gc.count1Table stop (stop - bigEnd)).bind fun quads =>
  Act.pure { pairs, bigEnd, quads }

/-- The quads kept (R353). -/
def Spectrum.kept (x : Spectrum) : List DiagSym := x.quads.filter fun q => decide (q.kind = .quad)

/-- The decoded values in order (R356). -/
def Spectrum.vals (x : Spectrum) : List Int := (x.pairs ++ x.kept).flatMap fun q => q.vals

/-- `n` values as exactly 576: truncated or zero-padded (R356). -/
def fit576 (v : List Int) : List Int := (v ++ List.replicate 576 0).take 576

/-- The bits of the parts before (g, c) in main-data order: `p23start[gr][ch]` (R429). -/
def p23start (f : Frame) (g : Gran) (c : Chan) : Nat :=
  (((parts f.nch).takeWhile fun q => decide (q ≠ (g, c))).map fun q =>
    (granInfo f.si q.1 q.2).part23Length.toNat).sum

/-- HuffGranule(gr, ch) (R360): is, zpb and count1 of MD are written only when it succeeds. It answers the element it
gives OUT_DIAG (R359). -/
def huffGranule (g : Gran) (c : Chan) : Cmd OutDiag := fun s =>
  let gc := granInfo s.frm.si g c
  let start := p23start s.frm g c
  let b := regionBounds (frameBands s) gc
  ((onReader .md fun src =>
      readSpectrum src gc b.1 b.2 (start + (s.md.get g c).p2len) (start + gc.part23Length.toNat)).bind fun x =>
    fun t =>
      let d := { t.md.get g c with
        is := fit576 x.vals, zpb := min 576 x.vals.length, count1 := x.kept.length }
      .ok ⟨s.frm.fidx, g, c, b.1, b.2, x.bigEnd, x.pairs ++ x.quads⟩ { t with md := t.md.set g c d }) s

/-- The state with MDST of a part at `v`. -/
def setMdst (g : Gran) (c : Chan) (v : MdStage) (s : State) : State := { s with mdst := s.mdst.set g c v }

/-- Elements appended to OUT_DIAG, when EMIT_INTERMEDIATES = true (R359). -/
def emitDiag (ds : List OutDiag) (s : State) : State :=
  if s.cfg.emitIntermediates then { s with outDiag := s.outDiag ++ ds } else s

/-! ## Commands -/

/-- The four values of a quad as signed bytes: v in [7:0], w in [15:8], x in [23:16], y in [31:24] (R346). -/
def quadWord (q : List Int) : Word :=
  byteOfInt (q.getD 3 0) ++ byteOfInt (q.getD 2 0) ++ byteOfInt (q.getD 1 0) ++ byteOfInt (q.getD 0 0)

/-- HUFF_PAIR (R344). -/
def execHuffPair (s : State) : Host.Outcome State Fault Refusal :=
  command 0x30 true
    ((onReader .md fun src => huffPair src (argTable s)).bind fun (x, y) =>
      Act.modify fun s => setResults (wordOfInt x) (wordOfInt y) s) s

/-- HUFF_QUAD (R346). -/
def execHuffQuad (s : State) : Host.Outcome State Fault Refusal :=
  command 0x31 true
    ((onReader .md fun src => huffQuad src (argBit0 s)).bind fun q =>
      Act.modify fun s => setResults (quadWord q) (wordOfNat s.mdPos) s) s

/-- HUFF_GRANULE (R361). -/
def execHuffGranule (g : Gran) (c : Chan) (s : State) : Host.Outcome State Fault Refusal :=
  command 0x32 true
    ((needPart c).bind fun _ =>
      (needStage fun s => !s.mdbuf.isEmpty && decide (s.mdst.get g c ≠ .none)).bind fun _ =>
      (huffGranule g c).bind fun d =>
      Act.modify fun s =>
        let t := emitDiag [d] (setMdst g c .huf s)
        setResults (wordOfNat (t.md.get g c).zpb) (wordOfNat (t.md.get g c).count1) t) s

end Sys2Proof.Machine
end

