-- ==== Sys2Proof/Machine/ScaleFactor.lean ====
section
/-! DEFINITION. The scale-factor decoder and the order of a frame's main data (45_scalefactor.md), and the commands
SCALEFAC and MAINDATA. -/

namespace Sys2Proof.Machine

/-- The scfsi group of a long band: 0-5, 6-10, 11-15, 16-20 (R422). -/
def groupOf (b : Nat) : Nat := if b < 6 then 0 else if b < 11 then 1 else if b < 16 then 2 else 3

/-- The long values of a scale-factor value: l[b] (R56). -/
def ScaleFac.longAt (sf : ScaleFac) (b : Nat) : BitVec 4 :=
  match sf with
  | .long l => l.getD b 0
  | .mixed l _ => l.getD b 0
  | .short _ => 0

/-- The short values of a scale-factor value: s[b][w]; the list of a Mixed value begins with band 3 (R56). -/
def ScaleFac.shortAt (sf : ScaleFac) (b w : Nat) : BitVec 4 :=
  match sf with
  | .short s => (s.getD b []).getD w 0
  | .mixed _ s => (s.getD (b - 3) []).getD w 0
  | .long _ => 0

/-- Whether a scale-factor value is Long. -/
def ScaleFac.isLong : ScaleFac → Bool
  | .long _ => true
  | .short _ => false
  | .mixed _ _ => false

/-- `cp[g]` (R428): the groups a part copies from granule 0, none in granule 0. -/
def copyFlags (si : SideInfo) (g : Gran) (c : Chan) : List Bool :=
  match g with
  | .g0 => [false, false, false, false]
  | .g1 => si.scfsi.getD (chanIdx c) []

/-- Long band b (R422, R423): a copied group reads no bits and takes granule 0's value, another band is read with slen1
below band 11 and slen2 from there. -/
def readLongBand (src : Src) (w : Nat × Nat) (cp : List Bool) (sf0 : ScaleFac) (b : Nat) : Rd (BitVec 4) :=
  if cp.getD (groupOf b) false then Act.pure (sf0.longAt b) else
  (bitRead src (if b < 11 then w.1 else w.2)).bind fun v => Act.pure (BitVec.ofNat 4 v)

/-- Short bands b0..11, the three windows of a band together, slen1 below band 6 and slen2 from there; then band 12, all
0 (R425, R426). -/
def readShortBands (src : Src) (w : Nat × Nat) (b0 : Nat) : Rd (List (List (BitVec 4))) :=
  (Act.forEach (fun b => Act.repeat ((bitRead src (if b < 6 then w.1 else w.2)).bind fun v =>
      Act.pure (BitVec.ofNat 4 v)) 3) (List.range' b0 (12 - b0))).bind fun s =>
  Act.pure (s ++ [[0, 0, 0]])

/-- The reads of ScaleFactors (R428) from the part's start on; `sf0` is granule 0's value. -/
def readScaleFac (src : Src) (gc : GranInfo) (cp : List Bool) (sf0 : ScaleFac) : Rd ScaleFac :=
  let w := slen gc.scalefacCompress
  match shapeOf gc with
  | .short => (readShortBands src w 0).bind fun s => Act.pure (.short s)
  | .mixed =>
    (Act.repeat ((bitRead src w.1).bind fun v => Act.pure (BitVec.ofNat 4 v)) 8).bind fun l =>
    (readShortBands src w 3).bind fun s => Act.pure (.mixed l s)
  | .long => (Act.forEach (readLongBand src w cp sf0) (List.range 21)).bind fun l => Act.pure (.long (l ++ [0]))

/-- The two cases of R424: a copy into a Short or Mixed block, or into a Long block from one that is not Long. -/
def scfsiIllegal (shape : Shape) (cp : List Bool) (sf0 : ScaleFac) : Bool :=
  cp.any id &&
    match shape with
    | .long => !sf0.isLong
    | .short => true
    | .mixed => true

/-- ScaleFactors(gr, ch) (R428): sf, p23start and p2len of MD are written only when it succeeds. Its checks come before
any bit is read and before the seek, so a failed check leaves BR_MD.pos where it was (R11, R424, log 11). That granule 0
is decoded, when a group of it is copied, is a precondition (R625, log 10). -/
def scaleFactors (g : Gran) (c : Chan) : Cmd Unit := fun s =>
  let gc := granInfo s.frm.si g c
  let start := p23start s.frm g c
  let cp := copyFlags s.frm.si g c
  let sf0 := (s.md.get .g0 c).sf
  ((needStage fun s => !(cp.any id && decide (shapeOf gc = .long) && decide (s.mdst.get .g0 c = .none))).bind fun _ =>
    (Act.need (fun _ => !scfsiIllegal (shapeOf gc) cp sf0) .illegalScfsiOnShortBlock).bind fun _ =>
    (onReader .md fun src => seekTo src start).bind fun _ =>
    Act.get.bind fun a =>
    (onReader .md fun src => readScaleFac src gc cp sf0).bind fun sf =>
    Act.modify fun t =>
      { t with md := t.md.set g c { t.md.get g c with sf, p23start := start, p2len := t.mdPos - a.mdPos } }) s

/-- One part of MainData (R430): its scale factors, then its Huffman data. Where the Huffman data fails, the part keeps
the scale factors just read and MDST = SF, which R430's pseudocode writes first; R430's words and R620 name only the parts
decoded before the error. DEDUCED (log 18). Where the check of R424 fails, BR_MD.pos stays where the part before left it.
DEDUCED (log 11). -/
def mainPart (q : Gran × Chan) : Cmd OutDiag :=
  (scaleFactors q.1 q.2).bind fun _ =>
  (Act.modify (setMdst q.1 q.2 .sf)).bind fun _ =>
  (huffGranule q.1 q.2).bind fun d =>
  (Act.modify (setMdst q.1 q.2 .huf)).bind fun _ =>
  Act.pure d

/-- The element of OUT_MAINDATA for the frame: (fidx, MD) with the entries of ch < nch (R55, R60). -/
def outMainOf (s : State) : OutMain :=
  ⟨s.frm.fidx, (parts s.frm.nch).map fun q => ⟨q.1, q.2, s.mdst.get q.1 q.2, s.md.get q.1 q.2⟩⟩

/-- MainData() (R430): the parts in order; an error stops it at once, the parts before keep their values, and nothing is
emitted. -/
def mainData : Cmd Unit := fun s =>
  ((Act.forEach mainPart (parts s.frm.nch)).bind fun ds =>
    Act.modify fun t =>
      let t := { t with mdValid := true }
      emitDiag ds { t with outMaindata := t.outMaindata ++ [outMainOf t] }) s

/-- SCALEFAC (R431). -/
def execScalefac (g : Gran) (c : Chan) (s : State) : Host.Outcome State Fault Refusal :=
  command 0x38 true
    ((needPart c).bind fun _ =>
      (needStage fun s => !s.mdbuf.isEmpty).bind fun _ =>
      (scaleFactors g c).bind fun _ =>
      Act.modify fun s =>
        setResults (wordOfNat (s.md.get g c).p2len) (wordOfNat s.mdPos) (setMdst g c .sf s)) s

/-- MAINDATA (R432). -/
def execMaindata (s : State) : Host.Outcome State Fault Refusal :=
  command 0x39 true
    (needFrame.bind fun _ =>
      (needStage fun s => !s.mdbuf.isEmpty).bind fun _ =>
      mainData.bind fun _ =>
      Act.modify fun s => setResults (wordOfNat (2 * s.frm.nch)) (wordOfNat s.mdPos) s) s

end Sys2Proof.Machine
end

