-- ==== Sys2Proof/Machine/Requant.lean ====
section
/-! DEFINITION. The requantizer and the reorder (46_requantize_reorder.md), the end every DSP stage shares, and the
commands REQUANT and REORDER. -/

namespace Sys2Proof.Machine

/-! ## What every stage does with its result -/

/-- An element appended to OUT_INTER, when EMIT_INTERMEDIATES = true (R7, R60). -/
def emitInter (g : Gran) (c : Chan) (t : Tag) (x : List XReal) (s : State) : State :=
  if s.cfg.emitIntermediates then { s with outInter := s.outInter ++ [⟨s.frm.fidx, g, c, t, x⟩] } else s

/-- The end of a stage: XR[g][c] takes `x`, TAG[g][c] takes `t`, and OUT_INTER its element (R57, R466). -/
def stageDone (g : Gran) (c : Chan) (t : Tag) (x : List XReal) (s : State) : State :=
  emitInter g c t x { s with xr := s.xr.set g c x, tag := s.tag.set g c t }

/-- The precondition of a stage: its part's tag is the one before (R625). -/
def needTag (g : Gran) (c : Chan) (t : Tag) : Cmd Unit := needStage fun s => decide (s.tag.get g c = t)

/-- The side information of a part of the current frame. -/
def partInfo (s : State) (g : Gran) (c : Chan) : GranInfo := granInfo s.frm.si g c

/-- The shape of a part of the current frame (R421). -/
def partShape (s : State) (g : Gran) (c : Chan) : Shape := shapeOf (partInfo s g c)

/-! ## Where a line lies -/

/-- The long band of line `i` (R463). -/
def longBand (bands : Config.Bands) (i : Nat) : Nat := bandOf bands.long i

/-- The short band of line `i`: 3 sfbS[b] ≤ i < 3 sfbS[b+1] (R464). -/
def shortBand (bands : Config.Bands) (i : Nat) : Nat := bandOf (bands.short.map (3 * ·)) i

/-- The first line of short band b, 3 sfbS[b]. -/
def shortStart (bands : Config.Bands) (b : Nat) : Nat := 3 * sfbSAt bands b

/-- The lines of one window in short band b, W of R464. -/
def shortWidth (bands : Config.Bands) (b : Nat) : Nat := sfbSAt bands (b + 1) - sfbSAt bands b

/-- Whether line `i` belongs to the long bands of a block (R463-R465). -/
def isLongLine (shape : Shape) (i : Nat) : Bool :=
  match shape with
  | .long => true
  | .short => false
  | .mixed => decide (i < 36)

/-! ## Requantization -/

/-- The scale factor, pretab term and subblock gain of a line (R460). -/
structure LineGain where
  sf  : BitVec 4
  pt  : Nat
  sbg : BitVec 3
deriving DecidableEq, Repr

/-- A long line (R463). -/
def longGain (bands : Config.Bands) (gc : GranInfo) (sf : ScaleFac) (i : Nat) : LineGain :=
  let b := longBand bands i
  ⟨sf.longAt b, if gc.preflag then pretab b else 0, 0⟩

/-- A short line, in Huffman order (R464). -/
def shortGain (bands : Config.Bands) (gc : GranInfo) (sf : ScaleFac) (i : Nat) : LineGain :=
  let b := shortBand bands i
  let w := (i - shortStart bands b) / shortWidth bands b
  ⟨sf.shortAt b w, 0, gc.subblockGain.get w⟩

/-- Line `i` of a block (R463-R465). -/
def lineGain (bands : Config.Bands) (gc : GranInfo) (sf : ScaleFac) (i : Nat) : LineGain :=
  if isLongLine (shapeOf gc) i then longGain bands gc sf i else shortGain bands gc sf i

/-- Twice the step of R461: 2 for scalefac_scale = 1, else 1. -/
def stepHalves (gc : GranInfo) : Nat := if gc.scalefacScale then 2 else 1

/-- xr of a line (R460): sign(x) |x|^(4/3) 2^(-step (sf + pt)) 2^((global_gain - 210 - 8 sbg) / 4). -/
def requantValue (gc : GranInfo) (lg : LineGain) (x : Int) : XReal :=
  if x = 0 then .zero else
  let scale := XReal.power 2 (-(stepHalves gc * (lg.sf.toNat + lg.pt) : Nat)) 2
  let gain := XReal.power 2 ((gc.globalGain.toNat : Int) - 210 - 8 * lg.sbg.toNat) 4
  let mag := ((XReal.power x.natAbs 4 3).times scale).times gain
  if x < 0 then mag.negate else mag

/-- The 576 requantized lines of a part (R460). -/
def requantLines (bands : Config.Bands) (gc : GranInfo) (d : PartData) : List XReal :=
  table 576 fun i => requantValue gc (lineGain bands gc d.sf i) (d.is.getD i 0)

/-- Requant(gr, ch) (R466). -/
def requant (g : Gran) (c : Chan) (s : State) : State :=
  stageDone g c .req (requantLines (frameBands s) (partInfo s g c) (s.md.get g c)) s

/-! ## Reorder -/

/-- The line of the input that place `o` of a reordered block holds (R470, R471): place 3 sfbS[b] + 3 j + w holds line
3 sfbS[b] + w W + j. -/
def reorderSource (bands : Config.Bands) (shape : Shape) (o : Nat) : Nat :=
  if isLongLine shape o then o
  else
    let b := shortBand bands o
    let r := o - shortStart bands b
    shortStart bands b + r % 3 * shortWidth bands b + r / 3

/-- The reordered array (R470, R471). -/
def reorderLines (bands : Config.Bands) (shape : Shape) (x : List XReal) : List XReal :=
  table 576 fun o => at0 x (reorderSource bands shape o)

/-- Reorder(gr, ch) (R472). -/
def reorder (g : Gran) (c : Chan) (s : State) : State :=
  stageDone g c .reord (reorderLines (frameBands s) (partShape s g c) (s.xr.get g c)) s

/-! ## Commands -/

/-- REQUANT (R466). -/
def execRequant (g : Gran) (c : Chan) (s : State) : Host.Outcome State Fault Refusal :=
  command 0x40 false
    ((needPart c).bind fun _ =>
      (needStage fun s => decide (s.mdst.get g c = .huf)).bind fun _ =>
      Act.modify (requant g c)) s

/-- REORDER (R472). -/
def execReorder (g : Gran) (c : Chan) (s : State) : Host.Outcome State Fault Refusal :=
  command 0x41 false
    ((needPart c).bind fun _ => (needTag g c .req).bind fun _ => Act.modify (reorder g c)) s

end Sys2Proof.Machine
end

