-- ==== Sys2Proof/Machine/Hybrid.lean ====
section
/-! DEFINITION. The antialias butterfly and the hybrid synthesis (48_antialias_hybrid.md), and the commands ANTIALIAS
and HYBRID. Line 18 sb + i is sample i of subband sb. -/

namespace Sys2Proof.Machine

/-! ## Antialias -/

/-- c_i (R540). -/
def aaC (i : Nat) : XReal := .div (.int (aaCoeff i)) (.int 10000)

/-- sqrt(1 + c_i^2). -/
def aaNorm (i : Nat) : XReal := .sqrt (.add (.int 1) (.mul (aaC i) (aaC i)))

/-- S_i (R541). -/
def aaS (i : Nat) : XReal := .div (.int 1) (aaNorm i)

/-- A_i (R541). -/
def aaA (i : Nat) : XReal := .div (aaC i) (aaNorm i)

/-- The last boundary processed: 31, 1 or none (R543). -/
def lastBoundary : Shape → Nat
  | .long => 31
  | .short => 0
  | .mixed => 1

/-- Line `n` after the butterflies of boundaries 1 .. kmax (R542, R543). Each line is in at most one butterfly, so the
loops' order is no matter (R544): samples 0-7 of subband k are the lower ends at boundary k, samples 10-17 of subband
k - 1 the upper ends. -/
def antialiasLine (kmax : Nat) (x : List XReal) (n : Nat) : XReal :=
  let sb := n / 18
  let r := n % 18
  if r < 8 ∧ 1 ≤ sb ∧ sb ≤ kmax then
    ((at0 x n).times (aaS r)).plus ((at0 x (18 * sb - 1 - r)).times (aaA r))
  else if 10 ≤ r ∧ sb + 1 ≤ kmax then
    ((at0 x n).times (aaS (17 - r))).minus ((at0 x (18 * (sb + 1) + (17 - r))).times (aaA (17 - r)))
  else at0 x n

/-- Antialias on an array (R543). -/
def antialiasLines (shape : Shape) (x : List XReal) : List XReal := table 576 (antialiasLine (lastBoundary shape) x)

/-- Antialias(gr, ch) with its tag (R543). -/
def antialias (g : Gran) (c : Chan) (s : State) : State :=
  stageDone g c .aa (antialiasLines (partShape s g c) (s.xr.get g c)) s

/-! ## Hybrid synthesis -/

/-- y[i] of the N-point IMDCT of X (R550). -/
def imdct (N : Nat) (X : Nat → XReal) (i : Nat) : XReal :=
  XReal.sum (N / 2) fun k => (X k).times (.cosPi ((2 * i + 1 + N / 2) * (2 * k + 1) : Nat) (2 * N))

/-- sin(pi / 36 (i + 1/2)) (R551). -/
def sin36 (i : Nat) : XReal := .sinPi (2 * i + 1 : Nat) 72

/-- sin(pi / 12 (i + 1/2)) (R551): `winS[i]`. -/
def sin12 (i : Nat) : XReal := .sinPi (2 * i + 1 : Nat) 24

/-- win1[i], the start window (R551). -/
def win1 (i : Nat) : XReal :=
  if i < 18 then sin36 i else if i < 24 then .int 1 else if i < 30 then sin12 (i - 18) else .zero

/-- win3[i], the stop window (R551). -/
def win3 (i : Nat) : XReal :=
  if i < 6 then .zero else if i < 12 then sin12 (i - 6) else if i < 18 then .int 1 else sin36 i

/-- win[bt][i] for the 36-point transform (R551, R552). Block type 2 has no such window, and a Long block has not block
type 2 (R421). -/
def winLong (bt : BitVec 2) (i : Nat) : XReal :=
  match bt.toNat with
  | 1 => win1 i
  | 3 => win3 i
  | _ => sin36 i

/-- z[i] of a long transform of subband sb (R553). -/
def longZ (bt : BitVec 2) (x : List XReal) (sb i : Nat) : XReal :=
  (imdct 36 (fun k => at0 x (18 * sb + k)) i).times (winLong bt i)

/-- Window w's share of z[i] in the short transforms of subband sb: y_w at offset 6 + 6 w (R554). -/
def shortPart (x : List XReal) (sb w i : Nat) : XReal :=
  if 6 + 6 * w ≤ i ∧ i < 18 + 6 * w then
    (imdct 12 (fun k => at0 x (18 * sb + 3 * k + w)) (i - (6 + 6 * w))).times (sin12 (i - (6 + 6 * w)))
  else .zero

/-- z[i] of the short transforms of subband sb (R554). -/
def shortZ (x : List XReal) (sb i : Nat) : XReal := XReal.sum 3 fun w => shortPart x sb w i

/-- z of subband sb: the long transform with the block's window, the long transform with win0 in the first two subbands
of a Mixed block, else the short transforms (R552). -/
def hybridZ (shape : Shape) (bt : BitVec 2) (x : List XReal) (sb : Nat) : Nat → XReal :=
  match shape with
  | .long => longZ bt x sb
  | .mixed => if sb < 2 then longZ 0 x sb else shortZ x sb
  | .short => shortZ x sb

/-- The 576 outputs: the heads with the carry added (R555). -/
def hybridOut (shape : Shape) (bt : BitVec 2) (x : List XReal) (ovl : List (List XReal)) : List XReal :=
  table 576 fun n => (hybridZ shape bt x (n / 18) (n % 18)).plus (at0 (ovl.getD (n / 18) []) (n % 18))

/-- The new carry: the tails (R555). -/
def hybridTail (shape : Shape) (bt : BitVec 2) (x : List XReal) : List (List XReal) :=
  table 32 fun sb => table 18 fun i => hybridZ shape bt x sb (18 + i)

/-- Hybrid(gr, ch) with its tag (R556, R557). It takes the carry it finds in whatever order the parts are run, as the
pseudocode does; for an order other than the source's, 93_implementation_defined.md allows any value of OVL.
DESIGN CHOICE (log 20). -/
def hybrid (g : Gran) (c : Chan) (s : State) : State :=
  let shape := partShape s g c
  let bt := (partInfo s g c).blockType
  let x := s.xr.get g c
  stageDone g c .hyb (hybridOut shape bt x (s.ovl.get c)) { s with ovl := s.ovl.set c (hybridTail shape bt x) }

/-! ## Commands -/

/-- ANTIALIAS (R543). -/
def execAntialias (g : Gran) (c : Chan) (s : State) : Host.Outcome State Fault Refusal :=
  command 0x43 false
    ((needPart c).bind fun _ => (needTag g c .stereo).bind fun _ => Act.modify (antialias g c)) s

/-- HYBRID (R557). -/
def execHybrid (g : Gran) (c : Chan) (s : State) : Host.Outcome State Fault Refusal :=
  command 0x44 false
    ((needPart c).bind fun _ => (needTag g c .aa).bind fun _ => Act.modify (hybrid g c)) s

end Sys2Proof.Machine
end

