-- ==== Sys2Proof/Machine/Stereo.lean ====
section
/-! DEFINITION. The stereo unit (47_stereo.md) and the command STEREO. -/

namespace Sys2Proof.Machine

/-! ## Ratios -/

/-- r = tan(p pi / 12) (R503). -/
def isTan (p : Nat) : XReal := .tanPi p 12

/-- ratio_left(p): r / (1 + r), and 1 for p = 6 (R503). -/
def ratioLeft (p : Nat) : XReal := if p = 6 then .int 1 else (isTan p).over ((XReal.int 1).plus (isTan p))

/-- ratio_right(p): 1 / (1 + r), and 0 for p = 6 (R503). -/
def ratioRight (p : Nat) : XReal := if p = 6 then .zero else (XReal.int 1).over ((XReal.int 1).plus (isTan p))

/-! ## Coding units -/

/-- The coding unit a line lies in: its Huffman-order start and its IS position (R505, R506). -/
structure StereoUnit where
  hstart : Nat
  pos    : BitVec 4
deriving DecidableEq, Repr

/-- The long band whose scale factor is the position of long band b: with copy_prev, 20 for 21 (R506). -/
def posLongBand (last : Config.LastBand) (b : Nat) : Nat :=
  match last with
  | .copyPrev => if b = 21 then 20 else b

/-- The short band whose scale factors are the positions of short band b: with copy_prev, 11 for 12 (R506). -/
def posShortBand (last : Config.LastBand) (b : Nat) : Nat :=
  match last with
  | .copyPrev => if b = 12 then 11 else b

/-- The unit of a long line (R505). -/
def longUnit (last : Config.LastBand) (bands : Config.Bands) (sf : ScaleFac) (i : Nat) : StereoUnit :=
  let b := longBand bands i
  ⟨sfbLAt bands b, sf.longAt (posLongBand last b)⟩

/-- The unit of a short line, in the reordered layout: line 3 sfbS[b] + 3 j + w is in (b, w) (R505). -/
def shortUnit (last : Config.LastBand) (bands : Config.Bands) (sf : ScaleFac) (i : Nat) : StereoUnit :=
  let b := shortBand bands i
  let w := (i - shortStart bands b) % 3
  ⟨shortStart bands b + w * shortWidth bands b, sf.shortAt (posShortBand last b) w⟩

/-- The unit of line `i` (R505). -/
def unitOf (last : Config.LastBand) (bands : Config.Bands) (shape : Shape) (sf : ScaleFac) (i : Nat) : StereoUnit :=
  if isLongLine shape i then longUnit last bands sf i else shortUnit last bands sf i

/-- The IS position of a line whose unit `u` is eligible, none for a line that is no IS line (R504, R507). -/
def isPosition (on : Bool) (zpb1 : Nat) (u : StereoUnit) : Option Nat :=
  if on && decide (zpb1 ≤ u.hstart) && decide (u.pos.toNat ≤ 6) then some u.pos.toNat else none

/-! ## The unit -/

/-- One line of the two channels: an IS line (R508), an MS line (R501), or a line left as it is (R509). -/
def stereoLine (ms : Bool) (p : Option Nat) (l r : XReal) : XReal × XReal :=
  match p with
  | some p => (l.times (ratioLeft p), l.times (ratioRight p))
  | none =>
    if ms then ((l.plus r).over (.sqrt (.int 2)), (l.minus r).over (.sqrt (.int 2))) else (l, r)

/-- Whether the unit changes anything (R500). -/
def stereoActs (f : Frame) : Bool := decide (f.nch ≠ 1) && (msOn f.hdr || isOn f.hdr)

/-- The position that line `i` of granule g takes its IS ratios at, if it is an IS line (R504-R507). -/
def linePosition (s : State) (g : Gran) (i : Nat) : Option Nat :=
  let c := s.cfg.isPosChannel
  isPosition (isOn s.frm.hdr) (s.md.get g .c1).zpb
    (unitOf s.cfg.isLastBand (frameBands s) (partShape s g c) (s.md.get g c).sf i)

/-- The two outputs for line `i` of granule g (R509). -/
def stereoOut (s : State) (g : Gran) (i : Nat) : XReal × XReal :=
  stereoLine (msOn s.frm.hdr) (linePosition s g i) (at0 (s.xr.get g .c0) i) (at0 (s.xr.get g .c1) i)

/-- XR of channel c of granule g after the unit (R509). -/
def stereoLines (s : State) (g : Gran) (c : Chan) : List XReal :=
  if stereoActs s.frm then
    match c with
    | .c0 => table 576 fun i => (stereoOut s g i).1
    | .c1 => table 576 fun i => (stereoOut s g i).2
  else s.xr.get g c

/-- Stereo(gr) with the tags and the elements of OUT_INTER of its channels (R509, R511). Both results are computed from
the arrays before the unit. -/
def stereo (g : Gran) (s : State) : State :=
  (chans s.frm.nch).foldl (fun t c => stageDone g c .stereo (stereoLines s g c) t) s

/-- STEREO (R511). -/
def execStereo (g : Gran) (s : State) : Host.Outcome State Fault Refusal :=
  command 0x42 false
    (needFrame.bind fun _ =>
      (needStage fun s => (chans s.frm.nch).all fun c => decide (s.tag.get g c = .reord)).bind fun _ =>
      Act.modify (stereo g)) s

end Sys2Proof.Machine
end

