-- ==== Sys2Proof/Machine/Synth.lean ====
section
/-! DEFINITION. Frequency inversion, the polyphase synthesis and the reconstruction chain (49_synthesis.md), and the
commands FREQINV, SYNTH and RECONSTRUCT. -/

namespace Sys2Proof.Machine

/-! ## Frequency inversion -/

/-- The inverted array (R580). -/
def freqInvLines (x : List XReal) : List XReal :=
  table 576 fun n => if n / 18 % 2 = 1 ∧ n % 18 % 2 = 1 then (at0 x n).negate else at0 x n

/-- FreqInv(gr, ch) with its tag (R581). -/
def freqInv (g : Gran) (c : Chan) (s : State) : State := stageDone g c .fi (freqInvLines (s.xr.get g c)) s

/-! ## Polyphase synthesis -/

/-- S[k] at position ss: the sample of subband k, 0 where the mask mutes it (R582, R584). -/
def gather (mask : Word) (x : List XReal) (ss k : Nat) : XReal := if mask.getLsbD k then at0 x (18 * k + ss) else .zero

/-- N[i][k] (R583). -/
def synthN (i k : Nat) : XReal := .cosPi ((16 + i) * (2 * k + 1) : Nat) 64

/-- V (R583). -/
def matrixing (S : Nat → XReal) : List XReal := table 64 fun i => XReal.sum 32 fun k => (synthN i k).times (S k)

/-- A push onto the 16 slots of VH[ch], slot 0 newest (R585). -/
def pushV (vh : List (List XReal)) (v : List XReal) : List (List XReal) := v :: vh.take 15

/-- U[n] (R586): entry m = n mod 64 of the even slot 2i in the first half, of the odd slot 2i + 1 in the second. -/
def interleaved (vh : List (List XReal)) (n : Nat) : XReal :=
  let i := n / 64
  let m := n % 64
  if m < 32 then at0 (vh.getD (2 * i) []) m else at0 (vh.getD (2 * i + 1) []) m

/-- W[n] (R586). -/
def windowed (vh : List (List XReal)) (n : Nat) : XReal := (interleaved vh n).times (.synthD n)

/-- The 32 samples of one position (R586). -/
def windowSum (vh : List (List XReal)) : List XReal := table 32 fun j => XReal.sum 16 fun i => windowed vh (j + 32 * i)

/-- The positions of a list in order: the history after them, and their samples (R582-R586). -/
def synthFrom (mask : Word) (x : List XReal) : List Nat → List (List XReal) → List (List XReal) × List XReal
  | [], vh => (vh, [])
  | ss :: rest, vh =>
    let vh' := pushV vh (matrixing (gather mask x ss))
    let r := synthFrom mask x rest vh'
    (r.1, windowSum vh' ++ r.2)

/-- What a sample is emitted as: PCM_CLIP = none leaves it (R588). -/
def clipped (c : Config.PcmClip) (v : XReal) : XReal :=
  match c with
  | .none => v

/-- Synth(gr, ch) with its tag (R589). It takes the history it finds in whatever order the parts are run, as the
pseudocode does; for an order other than the source's, 93_implementation_defined.md allows any value of VH.
DESIGN CHOICE (log 20). -/
def synth (g : Gran) (c : Chan) (s : State) : State :=
  let r := synthFrom s.bandMask (s.xr.get g c) (List.range 18) (s.vh.get c)
  stageDone g c .syn r.2 { s with
    vh := s.vh.set c r.1
    outPcm := s.outPcm.set c (s.outPcm.get c ++ r.2.map (clipped s.cfg.pcmClip)) }

/-! ## The reconstruction chain -/

/-- The stages of granule g before STEREO, for channel c (R590). -/
def stagesBefore (g : Gran) (s : State) (c : Chan) : State := reorder g c (requant g c s)

/-- The stages of granule g after STEREO, for channel c (R590). -/
def stagesAfter (g : Gran) (s : State) (c : Chan) : State := synth g c (freqInv g c (hybrid g c (antialias g c s)))

/-- One granule of Reconstruct (R590). -/
def reconstructGran (g : Gran) (s : State) : State :=
  let t := (chans s.frm.nch).foldl (stagesBefore g) s
  (chans s.frm.nch).foldl (stagesAfter g) (stereo g t)

/-- Reconstruct() (R590): granule 0, then granule 1. -/
def reconstruct (s : State) : State := reconstructGran .g1 (reconstructGran .g0 s)

/-! ## Commands -/

/-- FREQINV (R581). -/
def execFreqinv (g : Gran) (c : Chan) (s : State) : Host.Outcome State Fault Refusal :=
  command 0x45 false
    ((needPart c).bind fun _ => (needTag g c .hyb).bind fun _ => Act.modify (freqInv g c)) s

/-- SYNTH (R589). -/
def execSynth (g : Gran) (c : Chan) (s : State) : Host.Outcome State Fault Refusal :=
  command 0x46 false
    ((needPart c).bind fun _ => (needTag g c .fi).bind fun _ => Act.modify (synth g c)) s

/-- RECONSTRUCT (R590). RESULT1 is unchanged. -/
def execReconstruct (s : State) : Host.Outcome State Fault Refusal :=
  command 0x47 false
    (needFrame.bind fun _ =>
      (needStage fun s => s.mdValid && (parts s.frm.nch).all fun q => decide (s.tag.get q.1 q.2 = .none)).bind fun _ =>
      Act.modify fun s => setResult0 (wordOfNat (576 * 2 * s.frm.nch)) (reconstruct s)) s

end Sys2Proof.Machine
end

