-- ==== Sys2Proof/Machine/Driver.lean ====
section
/-! DEFINITION. The sequencer and run control (40_driver.md), the commands NOP, RESET, RUN, STEP and REPLY, and the moves
of the host that are no command. -/

namespace Sys2Proof.Machine

/-! ## The sequencer loop -/

/-- The outcome of a frame attempt (R203): Resync, Frame or End. -/
inductive Attempt where
  | resync
  | frame
  | finished
deriving DecidableEq, Repr

/-- The end of a frame step: CKPT_INFO takes the frame's decode result, `fail` the error that stopped it (R51, R205). -/
def setCkpt (fail : Option Err) (s : State) : State := { s with ckptInfo := ckptWord s.frm.nch fail }

/-- FrameStep(r, op) (R205): a reservoir or spectral failure is recorded, and the frame kept undecoded. -/
def frameStep (r : Frame) (opc : BitVec 8) (s : State) : State :=
  match resolve (commitFrame r s) with
  | .err e t => setCkpt (some e) (record e .reservoir opc (histPush t))
  | .ok _ t =>
    match mainData (histPush t) with
    | .err e u => setCkpt (some e) (record e .spectral opc u)
    | .ok _ u => setCkpt none (reconstruct u)

/-- FrameAttempt(op) (R204): a scan to the next 0xFF byte and one parse there. An error of the parse is recorded, and the
position goes one byte past the candidate. -/
def frameAttempt (opc : BitVec 8) (s : State) : Attempt × State :=
  match onReader .inp (fun src => findByte src 0xFF) s with
  | .err _ t => (.finished, t)
  | .ok none t => (.finished, t)
  | .ok (some j) t =>
    match onReader .inp (parseFrame t.cfg) t with
    | .err e u => (.resync, setPos (record e .stream opc u) .inp (8 * (j + 1)))
    | .ok r u => (.frame, frameStep r opc u)

/-- EndRun() (R208). -/
def endRun (s : State) : State := { s with mode := .done, irqStatus := s.irqStatus ||| irqDone }

/-- EnterCheckpoint() (R210). -/
def enterCheckpoint (s : State) : State := { s with mode := .checkpoint, irqStatus := s.irqStatus ||| irqCkpt }

/-- StopRun() (R213). -/
def stopRun (s : State) : State := { s with mode := .idle, stopped := true, irqStatus := s.irqStatus ||| irqDone }

/-- One step of the sequencer in RUNNING (R203). -/
def sequencerStep (s : State) : State :=
  match frameAttempt 0x02 s with
  | (.resync, t) => t
  | (.frame, t) => enterCheckpoint t
  | (.finished, t) => endRun t

/-- A turn of the sequencer: it steps only in RUNNING; in another mode nothing changes (R203, R211, R674). -/
def sequencerTurn (s : State) : Host.Outcome State Fault Refusal :=
  match s.mode with
  | .running => .next (sequencerStep s)
  | .idle | .checkpoint | .done => .next s

/-! ## Run-control commands -/

/-- The state after RESET (R201): all of R64 but IN_LEN and IN. -/
def resetBlock (s : State) : State := { powerOn s with inLen := s.inLen, mem := s.mem }

/-- The state after RUN (R202). -/
def startRun (s : State) : State :=
  clearStages { s with
    inPos := 0
    frameCnt := 0
    hist := []
    mdbuf := []
    mdPos := 0
    mdRef := []
    frmValid := false
    ovl := State.reset.ovl
    vh := State.reset.vh
    outFrames := []
    outMaindata := []
    outPcm := ⟨[], []⟩
    outByteref := []
    outInter := []
    outDiag := []
    outBytes := []
    found := false
    stopped := false
    ckptInfo := 0
    mode := .running }

/-- The results of a STEP that meets the end of the input (R214). -/
def stepAtEnd (s : State) : State := setResults 0xFFFFFFFF 0 s

/-- The repeat loop of STEP in IDLE (R214). Every Resync moves the position past one more byte below IN_LEN, so `fuel`
above IN_LEN never ends the loop (R219). -/
def stepLoop : Nat → State → State
  | 0, s => endRun (stepAtEnd s)
  | fuel + 1, s =>
    match frameAttempt 0x03 s with
    | (.resync, t) => stepLoop fuel t
    | (.frame, t) => { setResults (t.frameCnt - 1) t.ckptInfo t with irqStatus := t.irqStatus ||| irqCkpt }
    | (.finished, t) => endRun (stepAtEnd t)

/-- STEP (R214) in IDLE or DONE. -/
def stepFrame (s : State) : State :=
  if s.mode = .done then stepAtEnd s else stepLoop (s.inLen.toNat + 1) s

/-- REPLY (R212) in CHECKPOINT. -/
def answerCheckpoint (s : State) : State := if argBit0 s then { s with mode := .running } else stopRun s

/-- NOP (R200). -/
def execNop (s : State) : Host.Outcome State Fault Refusal := command 0x00 false (Act.pure ()) s

/-- RESET (R201). -/
def execReset (s : State) : Host.Outcome State Fault Refusal := command 0x01 false (Act.modify resetBlock) s

/-- RUN (R202). -/
def execRun (s : State) : Host.Outcome State Fault Refusal := command 0x02 false (Act.modify startRun) s

/-- STEP (R214). The errors of its frames are recorded, not raised. -/
def execStep (s : State) : Host.Outcome State Fault Refusal := command 0x03 false (Act.modify stepFrame) s

/-- REPLY (R212). -/
def execReply (s : State) : Host.Outcome State Fault Refusal :=
  command 0x04 false
    ((Act.need (fun s => decide (s.mode = .checkpoint)) .illegalCommand).bind fun _ =>
      Act.modify answerCheckpoint) s

/-! ## Host moves -/

/-- The command word of a move: a write to CMD, at offset 0x00 (R34, R140). -/
def commandWord : Move → Option Word
  | .write off v => if off = 0 then some v else none
  | .read _ => none
  | .writeIn _ _ => none
  | .sequencer => none
  | .powerOn => none

/-- A move that issues no command: a register write or read, a write of IN, the sequencer's turn, power-on. -/
def hostMove (m : Move) (s : State) : Host.Outcome State Fault Refusal :=
  match m with
  | .write off v => writeReg off v s
  | .read off => .next { s with readLog := s.readLog ++ [(off, readReg s off)] }
  | .writeIn a b => writeInput a b s
  | .sequencer => sequencerTurn s
  | .powerOn => .next (powerOn s)

/-- The state with the word `w` as the next move, a write to CMD. -/
def issue (w : Word) (s : State) : State := { s with moves := .write 0 w :: s.moves }

end Sys2Proof.Machine
end

