-- ==== Sys2Proof/Machine/Dispatch.lean ====
section
/-! DEFINITION. One arm for each command of the block. -/

namespace Sys2Proof.Machine

/-- What a command does (R140, 40_driver.md to 49_synthesis.md). -/
def exec (i : Instr) (s : State) : Host.Outcome State Fault Refusal :=
  match i with
  | .nop => Sys2Proof.Machine.execNop s
  | .reset => Sys2Proof.Machine.execReset s
  | .run => Sys2Proof.Machine.execRun s
  | .step => Sys2Proof.Machine.execStep s
  | .reply => Sys2Proof.Machine.execReply s
  | .brReadBits r n => Sys2Proof.Machine.execBrReadBits r n s
  | .brReadBytes r => Sys2Proof.Machine.execBrReadBytes r s
  | .brSeek r => Sys2Proof.Machine.execBrSeek r s
  | .brFindByte r => Sys2Proof.Machine.execBrFindByte r s
  | .brTell r => Sys2Proof.Machine.execBrTell r s
  | .brEof r => Sys2Proof.Machine.execBrEof r s
  | .parseHeader => Sys2Proof.Machine.execParseHeader s
  | .parseSideinfo => Sys2Proof.Machine.execParseSideinfo s
  | .parseFrame => Sys2Proof.Machine.execParseFrame s
  | .resolve => Sys2Proof.Machine.execResolve s
  | .histPush => Sys2Proof.Machine.execHistPush s
  | .huffPair => Sys2Proof.Machine.execHuffPair s
  | .huffQuad => Sys2Proof.Machine.execHuffQuad s
  | .huffGranule g c => Sys2Proof.Machine.execHuffGranule g c s
  | .scalefac g c => Sys2Proof.Machine.execScalefac g c s
  | .maindata => Sys2Proof.Machine.execMaindata s
  | .requant g c => Sys2Proof.Machine.execRequant g c s
  | .reorder g c => Sys2Proof.Machine.execReorder g c s
  | .stereo g => Sys2Proof.Machine.execStereo g s
  | .antialias g c => Sys2Proof.Machine.execAntialias g c s
  | .hybrid g c => Sys2Proof.Machine.execHybrid g c s
  | .freqinv g c => Sys2Proof.Machine.execFreqinv g c s
  | .synth g c => Sys2Proof.Machine.execSynth g c s
  | .reconstruct => Sys2Proof.Machine.execReconstruct s

end Sys2Proof.Machine
end

