-- ==== Sys2Proof/Machine/Step.lean ====
section
/-! DEFINITION. One step of the machine: the oldest pending move, or the sequencer's turn when none is pending (log 7). -/

namespace Sys2Proof.Machine

/-- A word written to CMD: the command it stands for, or the refusal of a word that is none (R140). -/
def runWord (w : Word) (s : State) : Host.Outcome State Fault Refusal :=
  match decode w with
  | .ok i => exec i s
  | .error _ => .next (illegalWord w s)

/-- One move. -/
def perform (m : Move) (s : State) : Host.Outcome State Fault Refusal :=
  match commandWord m with
  | some w => runWord w s
  | none => hostMove m s

/-- One atomic step (R12, R115, R203). -/
def step (s : State) : Host.Outcome State Fault Refusal :=
  match s.moves with
  | [] => sequencerTurn s
  | m :: ms => perform m { s with moves := ms }

/-- The state in which the command word `w` (`nbits` bits, the rest 0) is the next move: the host writes it to CMD. -/
def State.withFetchWord (s : State) (nbits w : Nat) : State := issue (BitVec.ofNat 32 (w % 2 ^ nbits)) s

end Sys2Proof.Machine
end

