-- ==== Sys2Proof/Safety.lean ====
section
/-! DEFINITION. What counts as a safe state of the block, and the words the claims are stated in: the streams bit by bit,
the conditions commands ask for, and the reals of the DSP formulas, written from the rules without the machine's code. -/

namespace Sys2Proof.Safety

open Sys2Proof.Machine

/-! ## Streams -/

/-- Byte `a` of reader `r`'s stream, straight from IN or MDBUF (R250); a free value where IN has no byte (R100,
log 21). -/
def streamByte (s : State) (r : Reader) (a : Nat) : Byte :=
  match r with
  | .inp => if a < s.cfg.inMax then s.mem.read a else Config.absentByte a
  | .md => s.mdbuf.getD a 0

/-- Bit `q` of reader `r`'s stream (R105). -/
def streamBit (s : State) (r : Reader) (q : Nat) : Bool := (streamByte s r (q / 8)).getLsbD (7 - q % 8)

/-- The number of bits of IN from bit position `p` to its end, none past the end (R250). -/
def bitsLeft (s : State) (p : Nat) : Nat := 8 * s.inLen.toNat - p

/-- As many of the 32 bits of IN at bit position `p` as are there are the bits of the word `w`, bit 31 first. -/
def WordAt (s : State) (p : Nat) (w : Word) : Prop :=
  ∀ k < 32, k < bitsLeft s p → streamBit s .inp (p + k) = w.getLsbD (31 - k)

/-- Where the reading of fields of the widths `ws` stops when only `r` bits are there: the fields that are there whole
(R251, R280). -/
def fieldStart : List Nat → Nat → Nat
  | [], _ => 0
  | w :: ws, r => if w ≤ r then w + fieldStart ws (r - w) else 0

/-- How the reading of fields of the widths `ws` ends when `r` bits are there and the first check that fails, if any, is
`fault`: an error and the number of bits read by then, or none. A check fails only if its field is there; else the first
field that is not there whole gives UnexpectedEnd at its start (R253, R280). -/
def readOutcome (fault : Option (Err × Nat)) (ws : List Nat) (r : Nat) : Option (Err × Nat) :=
  match fault with
  | some (e, n) => if n ≤ r then some (e, n) else some (.unexpectedEnd, fieldStart ws r)
  | none => if ws.sum ≤ r then none else some (.unexpectedEnd, fieldStart ws r)

/-! ## When commands are accepted -/

/-- The modes that accept unit commands (R215). -/
def Ready (s : State) : Prop := s.mode = .idle ∨ s.mode = .done

/-- A current frame that has channel c, in a mode that accepts unit commands (R623, steps 1, 4 and 5). -/
def PartReady (s : State) (c : Chan) : Prop := Ready s ∧ s.frmValid = true ∧ (c = .c1 → s.frm.nch ≠ 1)

/-- The commands that need a current frame (R625). -/
def needsFrame : Instr → Bool
  | .resolve | .histPush | .scalefac _ _ | .huffGranule _ _ | .maindata | .requant _ _ | .reorder _ _ | .stereo _
  | .antialias _ _ | .hybrid _ _ | .freqinv _ _ | .synth _ _ | .reconstruct => true
  | .nop | .reset | .run | .step | .reply | .brReadBits _ _ | .brReadBytes _ | .brSeek _ | .brFindByte _ | .brTell _
  | .brEof _ | .parseHeader | .parseSideinfo | .parseFrame | .huffPair | .huffQuad => false

/-- The channel select of the eight commands R146 names. -/
def channelOf : Instr → Option Chan
  | .scalefac _ c | .huffGranule _ c | .requant _ c | .reorder _ c | .antialias _ c | .hybrid _ c | .freqinv _ c
  | .synth _ c => some c
  | .stereo _ | .nop | .reset | .run | .step | .reply | .brReadBits _ _ | .brReadBytes _ | .brSeek _ | .brFindByte _
  | .brTell _ | .brEof _ | .parseHeader | .parseSideinfo | .parseFrame | .huffPair | .huffQuad | .resolve | .histPush
  | .maindata | .reconstruct => none

/-- A Long part of granule 1 copies some scfsi group (R423). -/
def copiesGroup (s : State) (g : Gran) (c : Chan) : Prop :=
  g = .g1 ∧ shapeOf (granInfo s.frm.si g c) = .long ∧ true ∈ s.frm.si.scfsi.getD (chanIdx c) []

/-- The stage preconditions of R625 beyond the current frame. -/
def StageHolds (s : State) : Instr → Prop
  | .scalefac g c => s.mdbuf ≠ [] ∧ (copiesGroup s g c → s.mdst.get .g0 c ≠ .none)
  | .huffGranule g c => s.mdbuf ≠ [] ∧ s.mdst.get g c ≠ .none
  | .maindata => s.mdbuf ≠ []
  | .requant g c => s.mdst.get g c = .huf
  | .reorder g c => s.tag.get g c = .req
  | .stereo g => ∀ c ∈ chans s.frm.nch, s.tag.get g c = .reord
  | .antialias g c => s.tag.get g c = .stereo
  | .hybrid g c => s.tag.get g c = .aa
  | .freqinv g c => s.tag.get g c = .hyb
  | .synth g c => s.tag.get g c = .fi
  | .reconstruct => s.mdValid = true ∧ ∀ g, ∀ c ∈ chans s.frm.nch, s.tag.get g c = .none
  | .resolve | .histPush | .nop | .reset | .run | .step | .reply | .brReadBits _ _ | .brReadBytes _ | .brSeek _
  | .brFindByte _ | .brTell _ | .brEof _ | .parseHeader | .parseSideinfo | .parseFrame | .huffPair | .huffQuad => True

/-- The element a stage gives OUT_INTER when EMIT_INTERMEDIATES = true, nothing else (R7, R60). -/
def interOf (s : State) (g : Gran) (c : Chan) (t : Tag) (x : List XReal) : List OutInter :=
  if s.cfg.emitIntermediates then [⟨s.frm.fidx, g, c, t, x⟩] else []

/-! ## Headers, side information and frames -/

/-- The accepted header fields (R292). -/
def HeaderLegal (h : Header) : Prop :=
  h.sync = 0xFFF ∧ h.id = 1 ∧ h.layer = 1 ∧ h.bitrateIndex ≠ 0 ∧ h.bitrateIndex ≠ 15 ∧ h.samplingIndex ≠ 3 ∧
    h.emphasis ≠ 2

/-- The first check a header word fails, in field order, and the number of bits read by then (R280, R292). -/
def headerFault (w : Word) : Option (Err × Nat) :=
  if w.extractLsb' 20 12 ≠ 0xFFF then some (.badSync, 12)
  else if w.getLsbD 19 = false then some (.badId, 13)
  else if w.extractLsb' 17 2 ≠ 1 then some (.badLayer, 15)
  else if w.extractLsb' 12 4 = 0 then some (.freeFormatBitrate, 20)
  else if w.extractLsb' 12 4 = 15 then some (.badBitrate, 20)
  else if w.extractLsb' 10 2 = 3 then some (.reservedSampleRate, 22)
  else if w.extractLsb' 0 2 = 2 then some (.reservedEmphasis, 32)
  else none

/-- The widths of the header fields in order (R161, R281). -/
def headerFields : List Nat := [12, 1, 2, 1, 4, 2, 1, 1, 2, 2, 1, 1, 2]

/-- The frame size a header word gives (R294): bitrate from [15:12], sample rate from [11:10], padding [9]. -/
def wordFrameSize (c : Config.Params) (w : Word) : Nat :=
  144000 * bitrateKbps c (w.extractLsb' 12 4) / sampleRateHz c (w.extractLsb' 10 2) + (w.extractLsb' 9 1).toNat

/-- The channel count a header word gives: 1 for mode [7:6] = 3 (R48). -/
def wordChannels (w : Word) : Nat := if w.extractLsb' 6 2 = 3 then 1 else 2

/-- The bits of the side information before the first granule-channel block (R164, R165). -/
def sideHead (nch : Nat) : Nat := if nch = 1 then 18 else 20

/-- The bits of the side information (R297). -/
def sideBits (nch : Nat) : Nat := if nch = 1 then 136 else 256

/-- The bit at which granule-channel block `k` of the side information at `p` begins: 59 bits each, granule-major
(R166, R298). -/
def blockAt (p nch k : Nat) : Nat := p + sideHead nch + 59 * k

/-- The check of R300 that a granule-channel block fails, and the bits of the block read by then. -/
def blockFault (src : Src) (b : Nat) : Option (Err × Nat) :=
  if bitAt src (b + 33) = 1 ∧ bitsAt src (b + 34) 2 = 0 then some (.reservedBlockType, 36)
  else if bitAt src (b + 33) = 1 ∧ bitAt src (b + 36) = 1 ∧ bitsAt src (b + 34) 2 ≠ 2 then
    some (.inconsistentSwitchPoint, 37)
  else none

/-- The first check that fails in the blocks of the side information at `p`, and the bits of it read by then (R280). -/
def sideFault (src : Src) (p nch : Nat) : Option (Err × Nat) :=
  (List.range (2 * nch)).findSome? fun k =>
    (blockFault src (blockAt p nch k)).map fun x => (x.1, sideHead nch + 59 * k + x.2)

/-- The widths of the fields of a granule-channel block in order, by its split flag (R166, R298). -/
def blockFields (src : Src) (b : Nat) : List Nat :=
  if bitAt src (b + 33) = 1 then [12, 9, 8, 4, 1, 2, 1, 5, 5, 3, 3, 3, 1, 1, 1]
  else [12, 9, 8, 4, 1, 5, 5, 5, 4, 3, 1, 1, 1]

/-- The widths of the fields of the side information at `p` in order (R164, R165, R298). -/
def sideFields (src : Src) (p nch : Nat) : List Nat :=
  [9, if nch = 1 then 5 else 3] ++ List.replicate (4 * nch) 1 ++
    (List.range (2 * nch)).flatMap fun k => blockFields src (blockAt p nch k)

/-- The bits of header and CRC word, the CRC word there when protection, bit 16, is 0 (R296). -/
def headBits (w : Word) : Nat := if w.getLsbD 16 then 32 else 48

/-- How the parse of a frame at `p` whose header word is `w` ends when `r` bits are there: an error and the number of bits
read by then, or none. Header, CRC word, side information and payload come in order; the payload needs a byte boundary and,
when it is cut, the position goes to the end (R254, R280, R302, R304). -/
def frameFault (c : Config.Params) (src : Src) (p : Nat) (w : Word) (r : Nat) : Option (Err × Nat) :=
  match readOutcome (headerFault w) headerFields r with
  | some x => some x
  | none =>
    if r < headBits w then some (.unexpectedEnd, 32)
    else
      match readOutcome (sideFault src (p + headBits w) (wordChannels w))
          (sideFields src (p + headBits w) (wordChannels w)) (r - headBits w) with
      | some (e, n) => some (e, headBits w + n)
      | none =>
        if p % 8 ≠ 0 then some (.misalignedRead, headBits w + sideBits (wordChannels w))
        else if r < 8 * wordFrameSize c w then some (.unexpectedEnd, r)
        else none

/-- The number of a granule. -/
def granIdx : Gran → Nat
  | .g0 => 0
  | .g1 => 1

/-- The record of a granule-channel block holds the bits of the block at `b` (R166), and the values of R54 for the fields
that are not transmitted. -/
def BlockHolds (src : Src) (b : Nat) (gc : GranInfo) : Prop :=
  gc.part23Length.toNat = bitsAt src b 12 ∧ gc.bigValues.toNat = bitsAt src (b + 12) 9 ∧
  gc.globalGain.toNat = bitsAt src (b + 21) 8 ∧ gc.scalefacCompress.toNat = bitsAt src (b + 29) 4 ∧
  gc.split = decide (bitAt src (b + 33) = 1) ∧
  (gc.split = true →
    gc.blockType.toNat = bitsAt src (b + 34) 2 ∧ gc.switchPoint = decide (bitAt src (b + 36) = 1) ∧
    gc.tableSelect.x0.toNat = bitsAt src (b + 37) 5 ∧ gc.tableSelect.x1.toNat = bitsAt src (b + 42) 5 ∧
    gc.tableSelect.x2 = 0 ∧ gc.subblockGain.x0.toNat = bitsAt src (b + 47) 3 ∧
    gc.subblockGain.x1.toNat = bitsAt src (b + 50) 3 ∧ gc.subblockGain.x2.toNat = bitsAt src (b + 53) 3 ∧
    gc.regionAddress1 = (if gc.blockType = 2 ∧ gc.switchPoint = false then 8 else 7) ∧
    gc.regionAddress2.toNat = 20 - gc.regionAddress1.toNat) ∧
  (gc.split = false →
    gc.blockType = 0 ∧ gc.switchPoint = false ∧ gc.subblockGain = ⟨0, 0, 0⟩ ∧
    gc.tableSelect.x0.toNat = bitsAt src (b + 34) 5 ∧ gc.tableSelect.x1.toNat = bitsAt src (b + 39) 5 ∧
    gc.tableSelect.x2.toNat = bitsAt src (b + 44) 5 ∧ gc.regionAddress1.toNat = bitsAt src (b + 49) 4 ∧
    gc.regionAddress2.toNat = bitsAt src (b + 53) 3) ∧
  gc.preflag = decide (bitAt src (b + 56) = 1) ∧ gc.scalefacScale = decide (bitAt src (b + 57) = 1) ∧
  gc.count1Table = decide (bitAt src (b + 58) = 1)

/-- The record of side information holds the bits of the side information at `p` (R164-R166, R298, R299). -/
def SideInfoHolds (src : Src) (p nch : Nat) (si : SideInfo) : Prop :=
  si.mainDataEnd.toNat = bitsAt src p 9 ∧ si.privateBits.toNat = bitsAt src (p + 9) (if nch = 1 then 5 else 3) ∧
  si.scfsi.length = nch ∧ si.gr0.length = nch ∧ si.gr1.length = nch ∧
  (∀ c < nch, ∀ g < 4,
    (si.scfsi.getD c []).getD g false = decide (bitAt src (p + (sideHead nch - 4 * nch) + 4 * c + g) = 1)) ∧
  ∀ (g : Gran) (c : Chan), chanIdx c < nch →
    BlockHolds src (blockAt p nch (nch * granIdx g + chanIdx c)) (granInfo si g c)

/-- The tables are this hardware's: those of R291, R392 and R393. -/
def TablesOk (c : Config.Params) : Prop :=
  c.bitrateKbps = [0, 32, 40, 48, 56, 64, 80, 96, 112, 128, 160, 192, 224, 256, 320] ∧
  c.sampleRateHz = [44100, 48000, 32000] ∧
  c.bands = [
    ⟨[0, 4, 8, 12, 16, 20, 24, 30, 36, 44, 52, 62, 74, 90, 110, 134, 162, 196, 238, 288, 342, 418, 576],
      [0, 4, 8, 12, 16, 22, 30, 40, 52, 66, 84, 106, 136, 192]⟩,
    ⟨[0, 4, 8, 12, 16, 20, 24, 30, 36, 42, 50, 60, 72, 88, 106, 128, 156, 190, 230, 276, 330, 384, 576],
      [0, 4, 8, 12, 16, 22, 28, 38, 50, 64, 80, 100, 126, 192]⟩,
    ⟨[0, 4, 8, 12, 16, 20, 24, 30, 36, 44, 54, 66, 82, 102, 126, 156, 194, 240, 296, 364, 448, 550, 576],
      [0, 4, 8, 12, 16, 22, 30, 42, 58, 78, 104, 138, 180, 192]⟩]

/-- The granule-channel fields the parser accepts (R300). -/
def granLegal (gc : GranInfo) : Prop :=
  (gc.split = true → gc.blockType ≠ 0 ∧ (gc.switchPoint = true → gc.blockType = 2)) ∧
  (gc.split = false → gc.blockType = 0 ∧ gc.switchPoint = false ∧ gc.subblockGain = ⟨0, 0, 0⟩)

/-- A frame record as the parser makes it with the tables of `c` (R48, R293-R302). -/
def FrameOk (c : Config.Params) (f : Frame) : Prop :=
  HeaderLegal f.hdr ∧ f.nch = (if f.hdr.mode = 3 then 1 else 2) ∧ (f.crc.isSome = true ↔ f.hdr.protection = 0) ∧
  f.hsLen = 4 + (if f.crc.isSome then 2 else 0) + (if f.nch = 1 then 17 else 32) ∧
  f.size = frameSize c f.hdr ∧ f.hsLen + f.payload.length = f.size ∧
  f.si.scfsi.length = f.nch ∧ f.si.gr0.length = f.nch ∧ f.si.gr1.length = f.nch ∧
  ∀ gc ∈ f.si.gr0 ++ f.si.gr1, granLegal gc

/-! ## Invariants -/

/-- IN is in its canonical form and within IN_MAX (R100). IN_LEN may be above it: the register takes any value (R47). -/
def MemoryOk (s : State) : Prop := s.mem.wf ∧ ∀ c ∈ s.mem, c.1 < s.cfg.inMax

/-- The arrays have the sizes of R55, R57, R58 and R59. -/
def ArraysOk (s : State) : Prop :=
  (∀ g c, (s.xr.get g c).length = 576) ∧ (∀ g c, (s.md.get g c).is.length = 576) ∧
  (∀ c, (s.ovl.get c).length = 32 ∧ ∀ l ∈ s.ovl.get c, l.length = 18) ∧
  (∀ c, (s.vh.get c).length = 16 ∧ ∀ l ∈ s.vh.get c, l.length = 64)

/-- The spectra keep to their ranges: zpb at most 576, nothing but zeros from zpb on (R357), magnitudes at most 8206
(R55). -/
def SpectrumOk (s : State) : Prop :=
  ∀ g c, (s.md.get g c).zpb ≤ 576 ∧ (∀ i, (s.md.get g c).zpb ≤ i → (s.md.get g c).is.getD i 0 = 0) ∧
    ∀ x ∈ (s.md.get g c).is, x.natAbs ≤ 8206

/-- A scale-factor value is of the variant of the part's shape, of its sizes, with the last band 0 (R56, R421). -/
def SfOk (shape : Shape) (sf : ScaleFac) : Prop :=
  match sf with
  | .long l => shape = .long ∧ l.length = 22 ∧ l.getD 21 0 = 0
  | .short s => shape = .short ∧ s.length = 13 ∧ (∀ r ∈ s, r.length = 3) ∧ s.getD 12 [] = [0, 0, 0]
  | .mixed l s => shape = .mixed ∧ l.length = 8 ∧ s.length = 10 ∧ (∀ r ∈ s, r.length = 3) ∧ s.getD 9 [] = [0, 0, 0]

/-- Frame, main data and stages agree: the tables are this hardware's; a current frame is one the parser makes; without
one nothing is decoded; MDBUF is at most 1931 bytes (R42) and BR_MD within it (R250); decoded scale factors fit their
part's shape; nothing past the decoded parts is tagged; a mono frame has no second channel (R48). -/
def StagesOk (s : State) : Prop :=
  TablesOk s.cfg ∧ (s.frmValid = true → FrameOk s.cfg s.frm) ∧
  (s.frmValid = false → s.mdst = .const .none ∧ s.tag = .const .none ∧ s.mdValid = false ∧ s.mdbuf = [] ∧
    s.mdRef = []) ∧
  s.mdbuf.length ≤ 1931 ∧ s.mdPos ≤ 8 * s.mdbuf.length ∧
  (∀ g c, s.mdst.get g c ≠ .none → SfOk (shapeOf (granInfo s.frm.si g c)) (s.md.get g c).sf) ∧
  (∀ g c, s.tag.get g c ≠ .none → s.mdst.get g c ≠ .none) ∧
  (s.mdValid = true → ∀ q ∈ parts s.frm.nch, s.mdst.get q.1 q.2 ≠ .none) ∧
  (s.frm.nch = 1 → ∀ g, s.mdst.get g .c1 = .none)

/-- The outputs fit the registers: FRAME_CNT counts OUT_FRAMES (R46, R209), FRM is its last element (R210), PCM comes in
granules of 576 (R589); a checkpoint has a frame, a run is not stopped, the history is no longer than it need be
(R316). -/
def OutputsOk (s : State) : Prop :=
  s.frameCnt = BitVec.ofNat 32 s.outFrames.length ∧
  (s.frmValid = true → ∃ o, s.outFrames.getLast? = some o ∧ o.frame = s.frm) ∧
  (∀ c, 576 ∣ (s.outPcm.get c).length) ∧
  (s.mode = .checkpoint → s.frmValid = true) ∧
  (s.mode = .running ∨ s.mode = .checkpoint → s.stopped = false) ∧
  ∀ e es, s.hist = e :: es → es ≠ [] → histTotal es < s.cfg.reservoirKeep

/-- ERR and CKPT_INFO hold words their rules can make: nothing recorded, or an error with its class and an opcode (R39,
R621); no frame, or a frame's result (R51). So every reserved bit of theirs reads 0 (R33). -/
def RecordsOk (s : State) : Prop :=
  (s.err = 0 ∨ ∃ e main opc, s.err = errWord opc (Err.cls main e) e) ∧
  (s.ckptInfo = 0 ∨ ∃ nch fail, s.ckptInfo = ckptWord nch fail)

/-! ## Reals -/

/-- c_i (R540). -/
noncomputable def aaCR (i : Nat) : ℝ :=
  ([-0.6, -0.535, -0.33, -0.185, -0.095, -0.041, -0.0142, -0.0037] : List ℝ).getD i 0

/-- S_i (R541). -/
noncomputable def aaSR (i : Nat) : ℝ := 1 / Real.sqrt (1 + aaCR i ^ 2)

/-- A_i (R541). -/
noncomputable def aaAR (i : Nat) : ℝ := aaCR i / Real.sqrt (1 + aaCR i ^ 2)

/-- y[i] of the N-point IMDCT of X (R550). -/
noncomputable def imdctR (N : Nat) (X : Nat → ℝ) (i : Nat) : ℝ :=
  ∑ k ∈ Finset.range (N / 2), X k * Real.cos (Real.pi / (2 * N) * (2 * i + 1 + N / 2) * (2 * k + 1))

/-- sin(pi / n (i + 1/2)). -/
noncomputable def sinWin (n : ℝ) (i : ℝ) : ℝ := Real.sin (Real.pi / n * (i + 1 / 2))

/-- win[bt][i] for block types 0, 1 and 3 (R551). -/
noncomputable def winR (bt : Nat) (i : Nat) : ℝ :=
  if bt = 1 then if i < 18 then sinWin 36 i else if i < 24 then 1 else if i < 30 then sinWin 12 (i - 18) else 0
  else if bt = 3 then if i < 6 then 0 else if i < 12 then sinWin 12 (i - 6) else if i < 18 then 1 else sinWin 36 i
  else sinWin 36 i

/-- The value of line `n` of an array. -/
noncomputable def lineR (x : List XReal) (n : Nat) : ℝ := (at0 x n).val

/-- z[i] of a long transform of subband sb with the window of block type bt (R553). -/
noncomputable def longR (bt : Nat) (x : List XReal) (sb i : Nat) : ℝ :=
  imdctR 36 (fun k => lineR x (18 * sb + k)) i * winR bt i

/-- z[i] of the short transforms of subband sb (R554). -/
noncomputable def shortR (x : List XReal) (sb i : Nat) : ℝ :=
  ∑ w ∈ Finset.range 3,
    if 6 + 6 * w ≤ i ∧ i < 18 + 6 * w then
      imdctR 12 (fun k => lineR x (18 * sb + 3 * k + w)) (i - (6 + 6 * w)) * sinWin 12 ((i - (6 + 6 * w) : Nat) : ℝ)
    else 0

/-- z[i] of subband sb by the part's shape and block type (R552). -/
noncomputable def hybridR (shape : Shape) (bt : Nat) (x : List XReal) (sb i : Nat) : ℝ :=
  match shape with
  | .long => longR bt x sb i
  | .short => shortR x sb i
  | .mixed => if sb < 2 then longR 0 x sb i else shortR x sb i

/-- ratio_left(p) (R503). -/
noncomputable def ratioLR (p : Nat) : ℝ :=
  if p = 6 then 1 else Real.tan (p * Real.pi / 12) / (1 + Real.tan (p * Real.pi / 12))

/-- ratio_right(p) (R503). -/
noncomputable def ratioRR (p : Nat) : ℝ := if p = 6 then 0 else 1 / (1 + Real.tan (p * Real.pi / 12))

/-! ## Lines of a block -/

/-- Line `i` of a block of the shape lies in long band `b` (R463, R465). -/
def InLongBand (bands : Config.Bands) (shape : Shape) (i b : Nat) : Prop :=
  (shape = .long ∨ shape = .mixed ∧ i < 36) ∧ b < 22 ∧ sfbLAt bands b ≤ i ∧ i < sfbLAt bands (b + 1)

/-- Short band `b` exists in a block of the shape (R464, R465). -/
def HasShortBand (shape : Shape) (b : Nat) : Prop := shape = .short ∧ b < 13 ∨ shape = .mixed ∧ 3 ≤ b ∧ b < 13

/-- The lines of one window in short band `b`, W (R464). -/
def bandWidth (bands : Config.Bands) (b : Nat) : Nat := sfbSAt bands (b + 1) - sfbSAt bands b

/-- Line `i` in Huffman order lies in window `w` of short band `b` (R464). -/
def InShortBand (bands : Config.Bands) (shape : Shape) (i b w : Nat) : Prop :=
  HasShortBand shape b ∧ w < 3 ∧ 3 * sfbSAt bands b + w * bandWidth bands b ≤ i ∧
    i < 3 * sfbSAt bands b + (w + 1) * bandWidth bands b

/-- The scale factor, pretab term and subblock gain of line `i` (R463-R465). -/
def GainOf (bands : Config.Bands) (gc : GranInfo) (sf : ScaleFac) (i : Nat) (lg : LineGain) : Prop :=
  (∃ b, InLongBand bands (shapeOf gc) i b ∧ lg = ⟨sf.longAt b, if gc.preflag then pretab b else 0, 0⟩) ∨
  (∃ b w, InShortBand bands (shapeOf gc) i b w ∧ lg = ⟨sf.shortAt b w, 0, gc.subblockGain.get w⟩)

/-- Line `i`, in the reordered layout, lies in a coding unit with the Huffman-order start `h` and the IS position `p`
(R505, R506, IS_LAST_BAND = copy_prev). -/
def UnitOf (bands : Config.Bands) (shape : Shape) (sf : ScaleFac) (i h p : Nat) : Prop :=
  (∃ b, InLongBand bands shape i b ∧ h = sfbLAt bands b ∧ p = (sf.longAt (if b = 21 then 20 else b)).toNat) ∨
  (∃ b w j, HasShortBand shape b ∧ w < 3 ∧ j < bandWidth bands b ∧ i = 3 * sfbSAt bands b + 3 * j + w ∧
    h = 3 * sfbSAt bands b + w * bandWidth bands b ∧ p = (sf.shortAt (if b = 12 then 11 else b) w).toNat)

/-! ## Parts and regions -/

/-- `p23start` of a part: the bits of the parts before it, in the order (0, 0), (0, 1), (1, 0), (1, 1), without channel 1
on a mono frame (R429). -/
def partStart (f : Frame) (g : Gran) (c : Chan) : Nat :=
  let bits (g : Gran) (c : Chan) : Nat := (granInfo f.si g c).part23Length.toNat
  match g, c with
  | .g0, .c0 => 0
  | .g0, .c1 => bits .g0 .c0
  | .g1, .c0 => bits .g0 .c0 + (if f.nch = 1 then 0 else bits .g0 .c1)
  | .g1, .c1 => bits .g0 .c0 + bits .g0 .c1 + bits .g1 .c0

/-- The table of pair `k`, whose first line is 2 k: table_select[0] below r1, [1] below r2, [2] from there; r1 and r2 are
36 and 576 in a split block, else long band boundaries (R347-R349). -/
def pairTable (bands : Config.Bands) (gc : GranInfo) (k : Nat) : BitVec 5 :=
  let r1 := if gc.split then 36 else sfbLAt bands (min 22 (gc.regionAddress1.toNat + 1))
  let r2 := if gc.split then 576 else sfbLAt bands (min 22 (gc.regionAddress1.toNat + gc.regionAddress2.toNat + 2))
  if 2 * k < r1 then gc.tableSelect.x0 else if 2 * k < r2 then gc.tableSelect.x1 else gc.tableSelect.x2

/-! ## References -/

/-- The triples of R311 for k bytes borrowed of a history, oldest first: an entry supplies what is still needed after the
newer entries, from its end. -/
def borrowed : List HistEntry → Nat → List ByteRef
  | [], _ => []
  | e :: es, k =>
    let t := min (k - (es.map fun e => e.bytes.length).sum) e.bytes.length
    (if t = 0 then [] else [⟨e.fidx, e.off + e.bytes.length - t, t⟩]) ++ borrowed es k

/-! ## Scale factors -/

/-- The number of scale-factor bits of a part (R427); `cp` are the groups it copies. -/
def partTwoLength (shape : Shape) (cp : List Bool) (s1 s2 : Nat) : Nat :=
  match shape with
  | .long => 11 * s1 + 10 * s2 - ((if cp.getD 0 false then 6 * s1 else 0) + (if cp.getD 1 false then 5 * s1 else 0) +
      (if cp.getD 2 false then 5 * s2 else 0) + (if cp.getD 3 false then 5 * s2 else 0))
  | .short => 18 * s1 + 18 * s2
  | .mixed => 17 * s1 + 18 * s2

/-- The widths of the scale factors of a part in the order they are read, the copied groups left out (R422-R426). -/
def scaleFields (shape : Shape) (cp : List Bool) (s1 s2 : Nat) : List Nat :=
  match shape with
  | .long => ((List.range 21).filter fun b => !cp.getD (groupOf b) false).map fun b => if b < 11 then s1 else s2
  | .short => List.replicate 18 s1 ++ List.replicate 18 s2
  | .mixed => List.replicate 17 s1 ++ List.replicate 18 s2

/-- Where, from the part's start, long band b is read: after the bands before it that are not copied (R422, R423). -/
def longOffset (cp : List Bool) (s1 s2 : Nat) (b : Nat) : Nat :=
  (((List.range b).filter fun i => !cp.getD (groupOf i) false).map fun i => if i < 11 then s1 else s2).sum

/-- Where, from the part's start, window w of short band b is read (R425). -/
def shortOffset (s1 s2 b w : Nat) : Nat := if b < 6 then (3 * b + w) * s1 else 18 * s1 + (3 * (b - 6) + w) * s2

/-- Where, from the part's start, window w of short band b of a Mixed part is read (R426). -/
def mixedOffset (s1 s2 b w : Nat) : Nat :=
  if b < 6 then 8 * s1 + (3 * (b - 3) + w) * s1 else 17 * s1 + (3 * (b - 6) + w) * s2

/-! ## Huffman -/

/-- A magnitude with its escape and sign, read from bit `p` on: the value and the position after it (R343). -/
def signedAt (src : Src) (lb m p : Nat) : Int × Nat :=
  let q := if 0 < lb ∧ m = 15 then p + lb else p
  let a := if 0 < lb ∧ m = 15 then 15 + bitsAt src p lb else m
  if a = 0 then (0, q) else (if bitAt src q = 1 then -(a : Int) else (a : Int), q + 1)

/-! ## Runs -/

/-- One turn of a host that answers every checkpoint with CONTINUE and lets the sequencer step. -/
def continueRun (s : State) : State :=
  match s.mode with
  | .running => sequencerStep s
  | .checkpoint => { s with mode := .running }
  | .idle => s
  | .done => s

/-- `n` such turns. -/
def continueRuns : Nat → State → State
  | 0, s => s
  | n + 1, s => continueRuns n (continueRun s)

/-- Commands one after another, each run where the one before left the block; none when one of them stops. -/
def runAll : List Instr → State → Option State
  | [], s => some s
  | i :: is, s =>
    match exec i s with
    | .next t => runAll is t
    | .fault _ => none
    | .refused _ => none

/-- The unit commands of one granule in the order of R590. -/
def granuleChain (nch : Nat) (g : Gran) : List Instr :=
  ((chans nch).flatMap fun c => [.requant g c, .reorder g c]) ++ [.stereo g] ++
    (chans nch).flatMap fun c => [.antialias g c, .hybrid g c, .freqinv g c, .synth g c]

end Sys2Proof.Safety
end

