-- ==== Sys2Proof/Certificates/Slice0/Obligations.lean ====
section
/-! DEFINITION. The statements for the provers. Each docstring names the rules of spec/ the statement formalises. -/

open Sys2Proof Sys2Proof.Machine Sys2Proof.Safety

/-! ## Commands and their words -/

/-- A word is a command exactly when it is that command's word: every command has one word, which decodes to it with
every operand, and no other word decodes (R141, R142, R144). -/
def Obligations.EachCommandHasOneWord : Prop :=
  ∀ (w : Word) (i : Instr), decode w = .ok i ↔ w = encode i

/-- Words written out from the field table of R141 and the opcode map of R144 decode to their commands. -/
def Obligations.SampleWordsDecode : Prop :=
  decode 0x00000000 = .ok .nop ∧ decode 0x00000001 = .ok .reset ∧ decode 0x00000003 = .ok .step ∧
  decode 0x000C0010 = .ok (.brReadBits .inp 12) ∧ decode 0x00010110 = .ok (.brReadBits .md 1) ∧
  decode 0x00000112 = .ok (.brSeek .md) ∧ decode 0x00000022 = .ok .parseFrame ∧ decode 0x00000030 = .ok .huffPair ∧
  decode 0x00000232 = .ok (.huffGranule .g1 .c0) ∧ decode 0x00000438 = .ok (.scalefac .g0 .c1) ∧
  decode 0x00000640 = .ok (.requant .g1 .c1) ∧ decode 0x00000242 = .ok (.stereo .g1) ∧
  decode 0x00000047 = .ok .reconstruct ∧ decode 0x00000442 = .error .strayBit ∧ decode 0x00000005 = .error .unknownOpcode

/-- A step whose next move writes a command's word to CMD is that command, on the state with the move taken off
(R34, R140; the list of moves is the model's, log 7). -/
def Obligations.StepRunsTheDecodedCommand : Prop :=
  ∀ (s : State) (w : Word) (ms : List Move) (i : Instr), s.moves = .write 0 w :: ms → decode w = .ok i →
    step s = exec i { s with moves := ms }

/-- A word that is no command's is refused: with IllegalCommand in a mode that accepts its opcode, and with Busy where the
mode refuses the opcode, RESET's and, at a checkpoint, REPLY's being accepted. ERR takes the word's low byte as opcode,
class 4 and the code, IRQ_STATUS.ERR is set, and nothing else changes (R35, R140, R142, R145, R623). That the mode is
checked before the word's form, for a word that is no command too, is R623's order as the model reads it (log 16). -/
def Obligations.OtherWordsAreIllegal : Prop :=
  ∀ (s : State) (w : Word) (ms : List Move), s.moves = .write 0 w :: ms → (∀ i, encode i ≠ w) →
    (Ready s ∨ w &&& 0xFF = 0x01 ∨ s.mode = .checkpoint ∧ w &&& 0xFF = 0x04 →
      step s = .next { s with
        moves := ms
        err := 0x00000411 + 0x10000 * (w &&& 0xFF)
        irqStatus := s.irqStatus ||| 0b100 }) ∧
    (w &&& 0xFF ≠ 0x01 → s.mode = .running ∨ s.mode = .checkpoint ∧ w &&& 0xFF ≠ 0x04 →
      step s = .next { s with
        moves := ms
        err := 0x00000412 + 0x10000 * (w &&& 0xFF)
        irqStatus := s.irqStatus ||| 0b100 })

/-! ## Rules about every command -/

/-- Busy (R35): a command refused by the mode changes ERR and IRQ_STATUS.ERR only, while RESET is accepted in every mode
and REPLY in CHECKPOINT. -/
def Obligations.BusyRefusesByMode : Prop :=
  (∀ (i : Instr) (s : State), (s.mode = .running ∧ i ≠ .reset ∨ s.mode = .checkpoint ∧ i ≠ .reset ∧ i ≠ .reply) →
    exec i s = .next { s with
      err := 0x00000412 + 0x10000 * i.opcode.zeroExtend 32
      irqStatus := s.irqStatus ||| 0b100 }) ∧
  (∀ (s : State), ∃ t, exec .reset s = .next t ∧ t.mode = .idle ∧ t.err = 0) ∧
  (∀ (s : State), s.mode = .checkpoint → ∃ t, exec .reply s = .next t ∧ t.mode ≠ .checkpoint ∧ t.err = s.err)

/-- StageNotReady (R625, R623 steps 4 and 6): without a current frame, or with a channel the frame has but a stage
precondition missing, the command records StageNotReady and changes nothing else. That SCALEFAC leaves BR_MD.pos too, where a copy from a
granule 0 that is not decoded is refused, is the model's reading (log 11). -/
def Obligations.StageNotReadyChecks : Prop :=
  ∀ (i : Instr) (s : State), Ready s → needsFrame i = true →
    (s.frmValid = false ∨
      s.frmValid = true ∧ (channelOf i = some .c1 → s.frm.nch ≠ 1) ∧ ¬ StageHolds s i) →
    exec i s = .next { s with
      err := 0x00000413 + 0x10000 * i.opcode.zeroExtend 32
      irqStatus := s.irqStatus ||| 0b100 }

/-- The channel check (R146): CH = 1 on a mono frame is IllegalCommand, after the check for a current frame. -/
def Obligations.SecondChannelOfMonoIsIllegal : Prop :=
  ∀ (i : Instr) (s : State), Ready s → channelOf i = some .c1 →
    (s.frmValid = true → s.frm.nch = 1 →
      exec i s = .next { s with
        err := 0x00000411 + 0x10000 * i.opcode.zeroExtend 32
        irqStatus := s.irqStatus ||| 0b100 }) ∧
    (s.frmValid = false →
      exec i s = .next { s with
        err := 0x00000413 + 0x10000 * i.opcode.zeroExtend 32
        irqStatus := s.irqStatus ||| 0b100 })

/-- What the block never writes: IN and IN_LEN (R101, R201), the named parameters, and but for RESET the host's registers
ARG, BAND_MASK and IRQ_ENABLE (R36, R45, R50): no command does, and no sequencer step. -/
def Obligations.CommandsLeaveHostStateAlone : Prop :=
  (∀ (i : Instr) (s t : State), exec i s = .next t →
    t.inLen = s.inLen ∧ (∀ a, t.mem.read a = s.mem.read a) ∧ t.cfg = s.cfg ∧ t.moves = s.moves ∧
    t.readLog = s.readLog ∧
    (i ≠ .reset → t.arg = s.arg ∧ t.bandMask = s.bandMask ∧ t.irqEnable = s.irqEnable)) ∧
  (∀ (s : State), s.moves = [] → ∃ t, step s = .next t ∧
    t.inLen = s.inLen ∧ (∀ a, t.mem.read a = s.mem.read a) ∧ t.cfg = s.cfg ∧ t.moves = [] ∧ t.readLog = s.readLog ∧
    t.arg = s.arg ∧ t.bandMask = s.bandMask ∧ t.irqEnable = s.irqEnable)

/-- ERR (R39, R622): but for RESET, a command leaves ERR as it was, or records an error: its own opcode, an error of R621
with its class, IRQ_STATUS.ERR set. -/
def Obligations.ErrHoldsTheLastError : Prop :=
  ∀ (i : Instr) (s t : State), i ≠ .reset → exec i s = .next t →
    t.err = s.err ∨
    (∃ e main, t.err.extractLsb' 16 8 = i.opcode ∧ t.err.extractLsb' 8 3 = (Err.cls main e).code ∧
      t.err.extractLsb' 0 8 = e.code ∧ t.err.extractLsb' 24 8 = 0 ∧ t.err.extractLsb' 11 5 = 0 ∧
      t.irqStatus.getLsbD 2 = true)

/-- The outputs are append-only (R60, R61): every command but RUN and RESET, and every sequencer step, leaves each output
with what it held as a prefix. -/
def Obligations.OutputsOnlyGrow : Prop :=
  ∀ (s t : State), (∃ i : Instr, i ≠ .reset ∧ i ≠ .run ∧ exec i s = .next t) ∨ s.moves = [] ∧ step s = .next t →
    s.outFrames <+: t.outFrames ∧ s.outMaindata <+: t.outMaindata ∧ s.outByteref <+: t.outByteref ∧
    s.outInter <+: t.outInter ∧ s.outDiag <+: t.outDiag ∧ s.outBytes <+: t.outBytes ∧
    ∀ c, s.outPcm.get c <+: t.outPcm.get c

/-- A failed command (R37, R620): a command other than RESET and STEP that sets IRQ_STATUS.ERR, run with that bit clear,
changes no more, whatever IRQ_STATUS holds, than ERR, that bit and the readers' positions, and MAINDATA the parts it
decoded before the error (R430). The results are unchanged. That MAINDATA also keeps the scale factors of the part that
fails is the model's choice (log 18), and so is that OUT_DIAG takes nothing of the parts decoded before (log 12). -/
def Obligations.FailedCommandKeepsState : Prop :=
  ∀ (i : Instr) (s t : State) (q : BitVec 3), i ≠ .reset → i ≠ .step → q.getLsbD 2 = false →
    exec i { s with irqStatus := q } = .next t → t.irqStatus.getLsbD 2 = true →
    exec i s = .next { s with err := t.err, irqStatus := s.irqStatus ||| 0b100, inPos := t.inPos, mdPos := t.mdPos,
                              md := t.md, mdst := t.mdst } ∧
    (i ≠ .maindata → t.md = s.md ∧ t.mdst = s.mdst)

/-! ## The bit reader -/

/-- BR_READ_BITS (R251-R253): with N ≤ 32 bits there, RESULT0 is the N bits most significant first, RESULT1 and the
position move by N, and nothing else changes; with fewer bits, UnexpectedEnd and no bit is consumed; N > 32 is
IllegalCommand. -/
def Obligations.ReadBits : Prop :=
  ∀ (r : Reader) (n : BitVec 6) (s : State), Ready s →
    (n.toNat ≤ 32 → n.toNat = 0 ∨ readerPos s r + n.toNat ≤ streamLen s r →
      ∃ v : Word,
        exec (.brReadBits r n) s = .next (setPos
          { s with result0 := v, result1 := BitVec.ofNat 32 (readerPos s r + n.toNat) } r
          (readerPos s r + n.toNat)) ∧
        (∀ k < n.toNat, v.getLsbD (n.toNat - 1 - k) = streamBit s r (readerPos s r + k)) ∧
        ∀ k, n.toNat ≤ k → v.getLsbD k = false) ∧
    (n.toNat ≤ 32 → n.toNat ≠ 0 → streamLen s r < readerPos s r + n.toNat →
      exec (.brReadBits r n) s = .next { s with err := 0x00100101, irqStatus := s.irqStatus ||| 0b100 }) ∧
    (32 < n.toNat →
      exec (.brReadBits r n) s = .next { s with err := 0x00100411, irqStatus := s.irqStatus ||| 0b100 })

/-- Mixed widths compose (R108): reading a bits and then b bits gives the two parts of reading a + b bits at once, and
an aligned byte read gives the value of an 8-bit read. -/
def Obligations.ReadsCompose : Prop :=
  (∀ (src : Src) (p a b : Nat), a + b ≤ 32 →
    (∀ u v q r, bitRead src a p = .ok u q → bitRead src b q = .ok v r →
      bitRead src (a + b) p = .ok (u * 2 ^ b + v) r) ∧
    (∀ x r, 0 < a → 0 < b → bitRead src (a + b) p = .ok x r →
      ∃ u v q, bitRead src a p = .ok u q ∧ bitRead src b q = .ok v r ∧ x = u * 2 ^ b + v)) ∧
  (∀ (src : Src) (p : Nat), p % 8 = 0 → p + 8 ≤ src.len →
    bitRead src 8 p = .ok (src.byte (p / 8)).toNat (p + 8) ∧ byteRead src 1 p = .ok [src.byte (p / 8)] (p + 8))

/-- BR_READ_BYTES (R254, R255): the bytes of an aligned read go to OUT_BYTES, the first four to RESULT0, the count to
RESULT1; a misaligned read is refused first, without moving; a read of more bytes than are there leaves the position at
the end. That a read of no bytes succeeds past the end too is the model's reading (log 19). -/
def Obligations.ReadBytes : Prop :=
  ∀ (r : Reader) (s : State), Ready s →
    (readerPos s r % 8 = 0 → s.arg.toNat = 0 ∨ readerPos s r + 8 * s.arg.toNat ≤ streamLen s r →
      ∃ b : List Byte, b.length = s.arg.toNat ∧
        (∀ k < s.arg.toNat, b.getD k 0 = streamByte s r (readerPos s r / 8 + k)) ∧
        exec (.brReadBytes r) s = .next (setPos
          { s with
            result0 := b.getD 0 0 ++ b.getD 1 0 ++ b.getD 2 0 ++ b.getD 3 0
            result1 := s.arg
            outBytes := s.outBytes ++ [b] } r (readerPos s r + 8 * s.arg.toNat))) ∧
    (readerPos s r % 8 ≠ 0 →
      exec (.brReadBytes r) s = .next { s with err := 0x00110102, irqStatus := s.irqStatus ||| 0b100 }) ∧
    (readerPos s r % 8 = 0 → s.arg.toNat ≠ 0 → streamLen s r < readerPos s r + 8 * s.arg.toNat →
      exec (.brReadBytes r) s = .next (setPos
        { s with err := 0x00110101, irqStatus := s.irqStatus ||| 0b100 } r (max (readerPos s r) (streamLen s r))))

/-- BR_SEEK clamps to the stream's length (R256, R257), BR_TELL reports position and length (R260), BR_EOF whether the
position is at or past the end (R261). Nothing else changes. -/
def Obligations.SeekTellEof : Prop :=
  ∀ (r : Reader) (s : State), Ready s →
    exec (.brSeek r) s = .next (setPos
      { s with result0 := BitVec.ofNat 32 (min s.arg.toNat (streamLen s r)) } r (min s.arg.toNat (streamLen s r))) ∧
    exec (.brTell r) s = .next { s with
      result0 := BitVec.ofNat 32 (readerPos s r), result1 := BitVec.ofNat 32 (streamLen s r) } ∧
    exec (.brEof r) s = .next { s with result0 := if streamLen s r ≤ readerPos s r then 1 else 0 }

/-- BR_FIND_BYTE (R258, R259): the first byte of the value at or after the next byte boundary becomes the position, with
FOUND = 1; where there is none, FOUND = 0, RESULT0 is all ones and the position stays. -/
def Obligations.FindByte : Prop :=
  ∀ (r : Reader) (s : State), Ready s →
    (∀ j, (readerPos s r + 7) / 8 ≤ j → 8 * (j + 1) ≤ streamLen s r → streamByte s r j = s.arg.extractLsb' 0 8 →
      (∀ i, (readerPos s r + 7) / 8 ≤ i → i < j → streamByte s r i ≠ s.arg.extractLsb' 0 8) →
      exec (.brFindByte r) s = .next (setPos
        { s with found := true, result0 := BitVec.ofNat 32 j, result1 := BitVec.ofNat 32 (8 * j) } r (8 * j))) ∧
    ((∀ j, (readerPos s r + 7) / 8 ≤ j → 8 * (j + 1) ≤ streamLen s r → streamByte s r j ≠ s.arg.extractLsb' 0 8) →
      exec (.brFindByte r) s = .next
        { s with found := false, result0 := 0xFFFFFFFF, result1 := BitVec.ofNat 32 (readerPos s r) })

/-! ## The parser -/

/-- Header round trip (R305): parsing the word of a legal header gives the header back, and a parse that succeeds read
the word of the header it gives. -/
def Obligations.HeaderRoundTrip : Prop :=
  (∀ (src : Src) (p : Nat) (h : Header), HeaderLegal h → p + 32 ≤ src.len →
    bitsAt src p 32 = (writeHeader h).toNat → parseHeader src p = .ok h (p + 32)) ∧
  (∀ (src : Src) (p q : Nat) (h : Header), parseHeader src p = .ok h q →
    q = p + 32 ∧ q ≤ src.len ∧ HeaderLegal h ∧ bitsAt src p 32 = (writeHeader h).toNat)

/-- PARSE_HEADER (R280, R292, R294, R295): a header that is there and passes every check is RESULT0, its frame size
RESULT1, and the position moves by 32; else the first failed check's error is recorded, with the position just after the
failed field, or UnexpectedEnd, with the position at the start of the first field that is not there whole. `w` holds the
bits that are there. -/
def Obligations.ParseHeader : Prop :=
  ∀ (s : State) (w : Word), Ready s → WordAt s s.inPos w →
    exec .parseHeader s =
      match readOutcome (headerFault w) headerFields (bitsLeft s s.inPos) with
      | none => .next { s with
          inPos := s.inPos + 32, result0 := w, result1 := BitVec.ofNat 32 (wordFrameSize s.cfg w) }
      | some (e, n) => .next { s with
          inPos := s.inPos + n
          err := 0x00200100 + e.code.zeroExtend 32
          irqStatus := s.irqStatus ||| 0b100 }

/-- The side information, field by field (R164-R166, R298, R299): what a successful parse gives is what the bits at the
fields' places are. -/
def Obligations.SideInfoFields : Prop :=
  ∀ (src : Src) (nch p q : Nat) (si : SideInfo), nch = 1 ∨ nch = 2 → parseSideInfo src nch p = .ok si q →
    q = p + sideBits nch ∧ q ≤ src.len ∧ SideInfoHolds src p nch si

/-- PARSE_SIDEINFO (R280, R297, R300, R301): when the side information is there and its blocks pass the checks, RESULT0 is
main_data_end, RESULT1 the bytes read, and the position moves past it; else the first check that fails is recorded just
after its field, or UnexpectedEnd at the start of the first field that is not there whole. -/
def Obligations.ParseSideinfo : Prop :=
  ∀ (s : State) (nch : Nat), Ready s → nch = (if s.arg.getLsbD 0 then 2 else 1) →
    exec .parseSideinfo s =
      match readOutcome (sideFault (src s .inp) s.inPos nch) (sideFields (src s .inp) s.inPos nch)
          (bitsLeft s s.inPos) with
      | none => .next { s with
          inPos := s.inPos + sideBits nch
          result0 := BitVec.ofNat 32 (bitsAt (src s .inp) s.inPos 9)
          result1 := if nch = 1 then 17 else 32 }
      | some (e, n) => .next { s with
          inPos := s.inPos + n
          err := 0x00210100 + e.code.zeroExtend 32
          irqStatus := s.irqStatus ||| 0b100 }

/-- PARSE_FRAME (R302-R304, R306): a whole frame at a byte boundary becomes the current frame, with the next index, its
header word, CRC word, side information and payload bytes; nothing of it is decoded yet; it is appended to OUT_FRAMES;
the position is just after it. Else the error of the header, the CRC word, the side information or the payload is recorded,
with the position that part leaves, and nothing else changes (R254, R280). `w` holds the header bits that are there. That
the raw bytes in OUT_FRAMES include the CRC word is the model's deduction (log 14). -/
def Obligations.ParseFrame : Prop :=
  ∀ (s : State) (w : Word), Ready s → TablesOk s.cfg → WordAt s s.inPos w →
    (frameFault s.cfg (src s .inp) s.inPos w (bitsLeft s s.inPos) = none →
      ∃ f : Frame,
        f.fidx = s.frameCnt.toNat ∧ f.off = s.inPos / 8 ∧ writeHeader f.hdr = w ∧ f.nch = wordChannels w ∧
        f.size = wordFrameSize s.cfg w ∧ f.hsLen = (headBits w + sideBits f.nch) / 8 ∧
        f.crc = (if w.getLsbD 16 then none
          else some (BitVec.ofNat 16 (bitsAt (src s .inp) (s.inPos + 32) 16))) ∧
        SideInfoHolds (src s .inp) (s.inPos + headBits w) f.nch f.si ∧
        f.hsLen < f.size ∧ f.payload.length = f.size - f.hsLen ∧
        (∀ i < f.size - f.hsLen, f.payload.getD i 0 = streamByte s .inp (f.off + f.hsLen + i)) ∧
        ∃ raw : List Byte, raw.length = f.hsLen ∧ (∀ i < f.hsLen, raw.getD i 0 = streamByte s .inp (f.off + i)) ∧
          exec .parseFrame s = .next { s with
            frm := f, frmValid := true, frameCnt := s.frameCnt + 1, mdValid := false
            mdst := .const .none, tag := .const .none, mdbuf := [], mdPos := 0, mdRef := []
            outFrames := s.outFrames ++ [⟨f, raw⟩]
            inPos := s.inPos + 8 * f.size
            result0 := s.frameCnt, result1 := BitVec.ofNat 32 f.size }) ∧
    (∀ e n, frameFault s.cfg (src s .inp) s.inPos w (bitsLeft s s.inPos) = some (e, n) →
      exec .parseFrame s = .next { s with
        inPos := s.inPos + n
        err := 0x00220100 + e.code.zeroExtend 32
        irqStatus := s.irqStatus ||| 0b100 })

/-! ## The bit reservoir -/

/-- RESOLVE (R310-R313): the last main_data_end bytes of the history, then the payload, become MDBUF, and MD_REF and
OUT_BYTEREF take the triples that name the bytes borrowed, oldest first; with too little history, ReservoirInsufficient and
nothing written. -/
def Obligations.Resolve : Prop :=
  ∀ (s : State) (k : Nat) (c : List Byte), Ready s → s.frmValid = true → k = s.frm.si.mainDataEnd.toNat →
    c = s.hist.flatMap (fun e => e.bytes) →
    (k ≤ c.length → ((borrowed s.hist k).map fun r => r.len).sum = k ∧
      exec .resolve s = .next { s with
        mdbuf := c.drop (c.length - k) ++ s.frm.payload, mdPos := 0, mdRef := borrowed s.hist k
        mdst := .const .none, tag := .const .none, mdValid := false
        outByteref := s.outByteref ++ [⟨s.frm.fidx, borrowed s.hist k⟩]
        result0 := BitVec.ofNat 32 (k + s.frm.payload.length), result1 := BitVec.ofNat 32 k }) ∧
    (c.length < k →
      exec .resolve s = .next { s with err := 0x0023020C, irqStatus := s.irqStatus ||| 0b100 })

/-- HIST_PUSH (R314, R315): the history takes the payload as its newest entry and keeps its newest entries: it drops
oldest ones only while the rest holds RESERVOIR_KEEP bytes, and as many as that allows. -/
def Obligations.HistPush : Prop :=
  ∀ (s : State), Ready s → s.frmValid = true →
    ∃ h : List HistEntry,
      h <:+ s.hist ++ [⟨s.frm.fidx, s.frm.off + s.frm.hsLen, s.frm.payload⟩] ∧ h ≠ [] ∧
      (h = s.hist ++ [⟨s.frm.fidx, s.frm.off + s.frm.hsLen, s.frm.payload⟩] ∨
        s.cfg.reservoirKeep ≤ (h.map fun e => e.bytes.length).sum) ∧
      (∀ e es, h = e :: es → es ≠ [] → (es.map fun e => e.bytes.length).sum < s.cfg.reservoirKeep) ∧
      exec .histPush s = .next { s with
        hist := h
        result0 := BitVec.ofNat 32 (h.map fun e => e.bytes.length).sum
        result1 := BitVec.ofNat 32 h.length }

/-! ## The Huffman decoder -/

/-- The code tables (R404): tables 1, 2, 3, 5, 6, A and B are complete, with the longest codewords the rule names; every
table, supplied ones too, is prefix-free with exactly one codeword of 1 to 32 bits for each value. A supplied table without
these properties is replaced by one that has them (log 6). -/
def Obligations.CodeTables : Prop :=
  (∀ t ∈ [(1, 3), (2, 6), (3, 6), (5, 8), (6, 7)],
    ((hcode t.1).map fun e => 2 ^ (32 - e.len)).sum = 2 ^ 32 ∧ ∃ e ∈ hcode t.1, e.len = t.2 ∧
      ∀ f ∈ hcode t.1, f.len ≤ t.2) ∧
  (∀ t ∈ [(quadA, 6), (quadB, 4)],
    (t.1.map fun e => 2 ^ (32 - e.len)).sum = 2 ^ 32 ∧ (∃ e ∈ t.1, e.len = t.2 ∧ ∀ f ∈ t.1, f.len ≤ t.2) ∧
    (∀ v < 16, (t.1.filter fun e => e.val = v).length = 1) ∧
    ∀ e ∈ t.1, e.val < 16 ∧ e.code < 2 ^ e.len ∧
      ∀ f ∈ t.1, e.len ≤ f.len → f.code / 2 ^ (f.len - e.len) = e.code → e = f) ∧
  (∀ t < 32, t ≠ 0 → t ≠ 4 → t ≠ 14 →
    (∀ x ≤ xmaxOf t, ∀ y ≤ xmaxOf t, ((hcode t).filter fun e => e.val = (x, y)).length = 1) ∧
    ∀ e ∈ hcode t, e.val.1 ≤ xmaxOf t ∧ e.val.2 ≤ xmaxOf t ∧ 1 ≤ e.len ∧ e.len ≤ 32 ∧ e.code < 2 ^ e.len ∧
      ∀ f ∈ hcode t, e.len ≤ f.len → f.code / 2 ^ (f.len - e.len) = e.code → e = f)

/-- HUFF_PAIR (R343, R344): where MDBUF holds a codeword of the table, its magnitudes with their escapes and signs are
the results; table 0 reads nothing; tables 4 and 14 are BadRegionTable. -/
def Obligations.HuffPair : Prop :=
  ∀ (s : State) (t : Nat), Ready s → t = (s.arg.extractLsb' 0 5).toNat →
    (∀ e ∈ hcode t, ∀ x y q1 q2, t ≠ 0 → t ≠ 4 → t ≠ 14 →
      bitsAt (src s .md) s.mdPos e.len = e.code →
      (x, q1) = signedAt (src s .md) (linbitsOf t) e.val.1 (s.mdPos + e.len) →
      (y, q2) = signedAt (src s .md) (linbitsOf t) e.val.2 q1 → q2 ≤ 8 * s.mdbuf.length →
      exec .huffPair s = .next { s with
        mdPos := q2, result0 := BitVec.ofInt 32 x, result1 := BitVec.ofInt 32 y }) ∧
    (t = 0 → exec .huffPair s = .next { s with result0 := 0, result1 := 0 }) ∧
    (t = 4 ∨ t = 14 → exec .huffPair s = .next { s with err := 0x0030030D, irqStatus := s.irqStatus ||| 0b100 })

/-- HUFF_QUAD (R345, R346): where MDBUF holds a codeword of table A or B, the four values with their signs are the bytes
of RESULT0 and the position after them is RESULT1. -/
def Obligations.HuffQuad : Prop :=
  ∀ (s : State) (e : Code Nat) (v w x y : Int) (q1 q2 q3 q4 : Nat), Ready s → e ∈ quadTable (s.arg.getLsbD 0) →
    bitsAt (src s .md) s.mdPos e.len = e.code →
    (v, q1) = signedAt (src s .md) 0 (e.val / 8 % 2) (s.mdPos + e.len) →
    (w, q2) = signedAt (src s .md) 0 (e.val / 4 % 2) q1 →
    (x, q3) = signedAt (src s .md) 0 (e.val / 2 % 2) q2 →
    (y, q4) = signedAt (src s .md) 0 (e.val % 2) q3 → q4 ≤ 8 * s.mdbuf.length →
    exec .huffQuad s = .next { s with
      mdPos := q4
      result0 := BitVec.ofInt 8 y ++ BitVec.ofInt 8 x ++ BitVec.ofInt 8 w ++ BitVec.ofInt 8 v
      result1 := BitVec.ofNat 32 q4 }

/-- The errors of Huff (R340): where MDBUF ends inside a codeword, UnexpectedEnd with the bits before the end consumed;
where the bits read so far begin no codeword, BadHuffmanCode with those bits consumed. -/
def Obligations.HuffmanErrors : Prop :=
  (∀ (s : State) (t r : Nat) (e : Code (Nat × Nat)), Ready s → t = (s.arg.extractLsb' 0 5).toNat → t ≠ 0 → t ≠ 4 →
    t ≠ 14 → e ∈ hcode t → s.mdPos + r = 8 * s.mdbuf.length → r < e.len →
    bitsAt (src s .md) s.mdPos r = e.code / 2 ^ (e.len - r) →
    exec .huffPair s = .next { s with
      mdPos := 8 * s.mdbuf.length, err := 0x00300301, irqStatus := s.irqStatus ||| 0b100 }) ∧
  (∀ (s : State) (r : Nat) (e : Code Nat), Ready s → e ∈ quadTable (s.arg.getLsbD 0) →
    s.mdPos + r = 8 * s.mdbuf.length → r < e.len → bitsAt (src s .md) s.mdPos r = e.code / 2 ^ (e.len - r) →
    exec .huffQuad s = .next { s with
      mdPos := 8 * s.mdbuf.length, err := 0x00310301, irqStatus := s.irqStatus ||| 0b100 }) ∧
  (∀ (src : Src) (tab : PairTable) (e : Code (Nat × Nat)) (p n : Nat), e ∈ tab → n < e.len → p + n + 1 ≤ src.len →
    bitsAt src p n = e.code / 2 ^ (e.len - n) → (∀ f ∈ tab, f.len ≤ n → bitsAt src p f.len ≠ f.code) →
    (∀ f ∈ tab, n < f.len → bitsAt src p (n + 1) ≠ f.code / 2 ^ (f.len - (n + 1))) →
    huff src tab p = .err .badHuffmanCode (p + n + 1))

/-- HUFF_GRANULE (R347-R361, R429): from the part's start, after its scale factors, the pairs of the big-value region by
their region's table, then the quads that end by the part's end, are the spectrum, cut or padded to 576 lines; a quad
that ends past it, or meets the end of MDBUF, is dropped, its bits consumed. -/
def Obligations.HuffGranule : Prop :=
  ∀ (s : State) (g : Gran) (c : Chan) (gc : GranInfo) (lim m stop : Nat) (ps qs : Nat → Nat)
    (xs : Nat → Int × Int) (vs : Nat → List Int),
    PartReady s c → s.mdbuf ≠ [] → s.mdst.get g c ≠ .none → gc = granInfo s.frm.si g c →
    lim = partStart s.frm g c + gc.part23Length.toNat →
    ps 0 = min (partStart s.frm g c + (s.md.get g c).p2len) (8 * s.mdbuf.length) →
    (∀ k < gc.bigValues.toNat,
      huffPair (src s .md) (pairTable (bandsOf s.cfg s.frm.hdr.samplingIndex) gc k) (ps k) = .ok (xs k) (ps (k + 1))) →
    ps gc.bigValues.toNat ≤ lim → qs 0 = ps gc.bigValues.toNat →
    (∀ k < m, qs k < lim ∧ huffQuad (src s .md) gc.count1Table (qs k) = .ok (vs k) (qs (k + 1)) ∧ qs (k + 1) ≤ lim) →
    (qs m = lim ∧ stop = lim ∨
      qs m < lim ∧ (∃ v, huffQuad (src s .md) gc.count1Table (qs m) = .ok v stop ∧ lim < stop) ∨
      qs m < lim ∧ huffQuad (src s .md) gc.count1Table (qs m) = .err .unexpectedEnd stop) →
    ∃ (is : List Int) (ds : List OutDiag), is.length = 576 ∧
      (∀ i < 576, is.getD i 0 =
        (((List.range gc.bigValues.toNat).flatMap fun k => [(xs k).1, (xs k).2]) ++
          (List.range m).flatMap vs).getD i 0) ∧
      (ds.length = if s.cfg.emitIntermediates then 1 else 0) ∧
      exec (.huffGranule g c) s = .next { s with
        mdPos := stop
        md := s.md.set g c { s.md.get g c with
          is := is, zpb := min 576 (2 * gc.bigValues.toNat + 4 * m), count1 := m }
        mdst := s.mdst.set g c .huf
        outDiag := s.outDiag ++ ds
        result0 := BitVec.ofNat 32 (min 576 (2 * gc.bigValues.toNat + 4 * m))
        result1 := BitVec.ofNat 32 m }

/-- Part3Overrun (R352, R358, R429): big values that end past the part's last bit fail the granule; its main data is
unchanged. That BR_MD.pos stays where reading stopped, the seek included, is the model's deduction (log 11). -/
def Obligations.Part3Overrun : Prop :=
  ∀ (s : State) (g : Gran) (c : Chan) (gc : GranInfo) (ps : Nat → Nat) (xs : Nat → Int × Int),
    PartReady s c → s.mdbuf ≠ [] → s.mdst.get g c ≠ .none → gc = granInfo s.frm.si g c →
    ps 0 = min (partStart s.frm g c + (s.md.get g c).p2len) (8 * s.mdbuf.length) →
    (∀ k < gc.bigValues.toNat,
      huffPair (src s .md) (pairTable (bandsOf s.cfg s.frm.hdr.samplingIndex) gc k) (ps k) = .ok (xs k) (ps (k + 1))) →
    partStart s.frm g c + gc.part23Length.toNat < ps gc.bigValues.toNat →
    exec (.huffGranule g c) s = .next { s with
      mdPos := ps gc.bigValues.toNat, err := 0x0032030E, irqStatus := s.irqStatus ||| 0b100 }

/-! ## Scale factors and main data -/

/-- SCALEFAC of a Long part (R422, R423, R427-R431): each band that is not copied is read at its place with its width, a
copied one is granule 0's, band 21 is 0; p2len is RESULT0 and the position after it RESULT1. A read that MDBUF cuts is
UnexpectedEnd, and MD and MDST are unchanged; that BR_MD.pos is then at the scale factor cut is the model's deduction
(log 11). `p` is the part's start, within MDBUF. -/
def Obligations.ScalefacLong : Prop :=
  ∀ (s : State) (g : Gran) (c : Chan) (p s1 s2 n : Nat) (cp : List Bool),
    PartReady s c → s.mdbuf ≠ [] → shapeOf (granInfo s.frm.si g c) = .long →
    p = min (partStart s.frm g c) (8 * s.mdbuf.length) → (s1, s2) = slen (granInfo s.frm.si g c).scalefacCompress →
    cp = (if g = .g1 then s.frm.si.scfsi.getD (chanIdx c) [] else [false, false, false, false]) → cp.length = 4 →
    (true ∈ cp → s.mdst.get .g0 c ≠ .none ∧ ∃ l, (s.md.get .g0 c).sf = .long l) →
    n = partTwoLength .long cp s1 s2 →
    (p + n ≤ 8 * s.mdbuf.length →
      ∃ l : List (BitVec 4), l.length = 22 ∧ l.getD 21 0 = 0 ∧
        (∀ b < 21, cp.getD (groupOf b) false = true → l.getD b 0 = (s.md.get .g0 c).sf.longAt b) ∧
        (∀ b < 21, cp.getD (groupOf b) false = false →
          (l.getD b 0).toNat = bitsAt (src s .md) (p + longOffset cp s1 s2 b) (if b < 11 then s1 else s2)) ∧
        exec (.scalefac g c) s = .next { s with
          mdPos := p + n
          md := s.md.set g c { s.md.get g c with sf := .long l, p23start := partStart s.frm g c, p2len := n }
          mdst := s.mdst.set g c .sf
          result0 := BitVec.ofNat 32 n, result1 := BitVec.ofNat 32 (p + n) }) ∧
    (8 * s.mdbuf.length < p + n →
      exec (.scalefac g c) s = .next { s with
        mdPos := p + fieldStart (scaleFields .long cp s1 s2) (8 * s.mdbuf.length - p)
        err := 0x00380301
        irqStatus := s.irqStatus ||| 0b100 })

/-- SCALEFAC of a Short or Mixed part (R425-R431): the bands in order, the three windows of a band together, each at its
place with its width; band 12 is 0. A read that MDBUF cuts is UnexpectedEnd, and MD and MDST are unchanged; that BR_MD.pos
is then at the scale factor cut is the model's deduction (log 11). `p` is the part's start, within MDBUF. -/
def Obligations.ScalefacWindows : Prop :=
  ∀ (s : State) (g : Gran) (c : Chan) (p n s1 s2 : Nat),
    PartReady s c → s.mdbuf ≠ [] → p = min (partStart s.frm g c) (8 * s.mdbuf.length) →
    (s1, s2) = slen (granInfo s.frm.si g c).scalefacCompress →
    (g = .g1 → true ∉ s.frm.si.scfsi.getD (chanIdx c) []) →
    n = partTwoLength (shapeOf (granInfo s.frm.si g c)) [] s1 s2 →
    (p + n ≤ 8 * s.mdbuf.length → shapeOf (granInfo s.frm.si g c) = .short →
      ∃ v : List (List (BitVec 4)), v.length = 13 ∧ v.getD 12 [] = [0, 0, 0] ∧
        (∀ b < 12, ∀ w < 3, ((v.getD b []).getD w 0).toNat =
          bitsAt (src s .md) (p + shortOffset s1 s2 b w) (if b < 6 then s1 else s2)) ∧
        exec (.scalefac g c) s = .next { s with
          mdPos := p + n
          md := s.md.set g c { s.md.get g c with sf := .short v, p23start := partStart s.frm g c, p2len := n }
          mdst := s.mdst.set g c .sf
          result0 := BitVec.ofNat 32 n, result1 := BitVec.ofNat 32 (p + n) }) ∧
    (p + n ≤ 8 * s.mdbuf.length → shapeOf (granInfo s.frm.si g c) = .mixed →
      ∃ (l : List (BitVec 4)) (v : List (List (BitVec 4))), l.length = 8 ∧ v.length = 10 ∧
        v.getD 9 [] = [0, 0, 0] ∧
        (∀ b < 8, (l.getD b 0).toNat = bitsAt (src s .md) (p + b * s1) s1) ∧
        (∀ b, 3 ≤ b → b < 12 → ∀ w < 3, ((v.getD (b - 3) []).getD w 0).toNat =
          bitsAt (src s .md) (p + mixedOffset s1 s2 b w) (if b < 6 then s1 else s2)) ∧
        exec (.scalefac g c) s = .next { s with
          mdPos := p + n
          md := s.md.set g c { s.md.get g c with sf := .mixed l v, p23start := partStart s.frm g c, p2len := n }
          mdst := s.mdst.set g c .sf
          result0 := BitVec.ofNat 32 n, result1 := BitVec.ofNat 32 (p + n) }) ∧
    (8 * s.mdbuf.length < p + n → shapeOf (granInfo s.frm.si g c) ≠ .long →
      exec (.scalefac g c) s = .next { s with
        mdPos := p + fieldStart (scaleFields (shapeOf (granInfo s.frm.si g c)) [] s1 s2) (8 * s.mdbuf.length - p)
        err := 0x00380301
        irqStatus := s.irqStatus ||| 0b100 })

/-- IllegalScfsiOnShortBlock (R424): a copy from granule 0 into a Short or Mixed part, or into a Long part from one that
is not Long, is refused before any bit is read. That the position is not moved either is the model's reading (log 11),
and so is that a Short or Mixed part is refused so whether or not granule 0 is decoded (log 10). -/
def Obligations.IllegalScfsi : Prop :=
  ∀ (s : State) (c : Chan), PartReady s c → s.mdbuf ≠ [] → true ∈ s.frm.si.scfsi.getD (chanIdx c) [] →
    (shapeOf (granInfo s.frm.si .g1 c) ≠ .long ∨
      s.mdst.get .g0 c ≠ .none ∧ ∀ l, (s.md.get .g0 c).sf ≠ .long l) →
    exec (.scalefac .g1 c) s = .next { s with err := 0x0038030F, irqStatus := s.irqStatus ||| 0b100 }

/-- MAINDATA (R430, R432) decodes the parts in order, the scale factors then the Huffman data of each: where every part
of the frame decodes, so does the frame, and OUT_MAINDATA takes its main data. -/
def Obligations.MaindataDecodesTheParts : Prop :=
  ∀ (s : State) (st : Nat → State), Ready s → s.frmValid = true → s.mdbuf ≠ [] →
    s.frm.nch = 1 ∨ s.frm.nch = 2 → st 0 = s →
    (∀ k q, (parts s.frm.nch)[k]? = some q → ∃ a b d,
      scaleFactors q.1 q.2 (st k) = .ok () a ∧
      huffGranule q.1 q.2 { a with mdst := a.mdst.set q.1 q.2 .sf } = .ok d b ∧
      st (k + 1) = { b with mdst := b.mdst.set q.1 q.2 .huf }) →
    ∃ (u : State) (ds : List OutDiag), u = st (2 * s.frm.nch) ∧
      u = { s with mdPos := u.mdPos, md := u.md, mdst := u.mdst } ∧
      (∀ q ∈ parts s.frm.nch, u.mdst.get q.1 q.2 = .huf) ∧
      (ds.length = if s.cfg.emitIntermediates then 2 * s.frm.nch else 0) ∧
      exec .maindata s = .next { u with
        mdValid := true
        outMaindata := s.outMaindata ++
          [⟨s.frm.fidx, (parts s.frm.nch).map fun q => ⟨q.1, q.2, .huf, u.md.get q.1 q.2⟩⟩]
        outDiag := s.outDiag ++ ds
        result0 := BitVec.ofNat 32 (2 * s.frm.nch), result1 := BitVec.ofNat 32 u.mdPos }

/-- MAINDATA on a silent frame (R432): where every part is Long and declares no bits, no big values and scale factors of
width 0, with nothing copied, the frame decodes to zero spectra with zpb = 0. -/
def Obligations.MaindataSilent : Prop :=
  ∀ (s : State), Ready s → s.frmValid = true → s.mdbuf ≠ [] → s.frm.nch = 1 ∨ s.frm.nch = 2 →
    (∀ q ∈ parts s.frm.nch,
      (granInfo s.frm.si q.1 q.2).part23Length = 0 ∧ (granInfo s.frm.si q.1 q.2).bigValues = 0 ∧
      (granInfo s.frm.si q.1 q.2).scalefacCompress = 0 ∧ shapeOf (granInfo s.frm.si q.1 q.2) = .long ∧
      true ∉ s.frm.si.scfsi.getD (chanIdx q.2) []) →
    ∃ t, exec .maindata s = .next t ∧ t.mdValid = true ∧ t.mdPos = 0 ∧ t.err = s.err ∧
      t.result0 = BitVec.ofNat 32 (2 * s.frm.nch) ∧ t.result1 = 0 ∧
      ∀ q ∈ parts s.frm.nch, t.mdst.get q.1 q.2 = .huf ∧ (t.md.get q.1 q.2).zpb = 0 ∧
        (t.md.get q.1 q.2).p2len = 0 ∧ (t.md.get q.1 q.2).is = List.replicate 576 0

/-! ## Requantizer and reorder -/

/-- REQUANT (R460-R466): every line is the value of the formula, with the scale factor, pretab term and subblock gain of
the band and window it lies in; nothing but XR, TAG and OUT_INTER changes. -/
def Obligations.Requant : Prop :=
  ∀ (s : State) (g : Gran) (c : Chan), PartReady s c → TablesOk s.cfg → s.mdst.get g c = .huf →
    ∃ x : List XReal, x.length = 576 ∧
      exec (.requant g c) s = .next { s with
        xr := s.xr.set g c x
        tag := s.tag.set g c .req
        outInter := s.outInter ++ interOf s g c .req x } ∧
      ∀ i < 576, ∀ lg,
        GainOf (bandsOf s.cfg s.frm.hdr.samplingIndex) (granInfo s.frm.si g c) (s.md.get g c).sf i lg →
        lineR x i =
          Real.sign ((s.md.get g c).is.getD i 0 : ℝ) * |((s.md.get g c).is.getD i 0 : ℝ)| ^ ((4 : ℝ) / 3) *
            (2 : ℝ) ^ (-((if (granInfo s.frm.si g c).scalefacScale then 1 else 1 / 2) *
              ((lg.sf.toNat : ℝ) + lg.pt))) *
            (2 : ℝ) ^ ((1 / 4 : ℝ) *
              (((granInfo s.frm.si g c).globalGain.toNat : ℝ) - 210 - 8 * (lg.sbg.toNat : ℝ)))

/-- Requantization is odd-symmetric (R467). -/
def Obligations.RequantIsOdd : Prop :=
  ∀ (gc : GranInfo) (lg : LineGain) (x : Int), (requantValue gc lg (-x)).val = -(requantValue gc lg x).val

/-- REORDER (R470-R472): line j of window w of short band b goes to place 3 sfbS[b] + 3 j + w; a Long block and the long
lines of a Mixed block stay. -/
def Obligations.Reorder : Prop :=
  ∀ (s : State) (g : Gran) (c : Chan) (bands : Config.Bands) (shape : Shape), PartReady s c → TablesOk s.cfg →
    s.tag.get g c = .req → bands = bandsOf s.cfg s.frm.hdr.samplingIndex → shape = shapeOf (granInfo s.frm.si g c) →
    ∃ y : List XReal, y.length = 576 ∧
      exec (.reorder g c) s = .next { s with
        xr := s.xr.set g c y
        tag := s.tag.set g c .reord
        outInter := s.outInter ++ interOf s g c .reord y } ∧
      (∀ b w j, HasShortBand shape b → w < 3 → j < bandWidth bands b →
        at0 y (3 * sfbSAt bands b + 3 * j + w) =
          at0 (s.xr.get g c) (3 * sfbSAt bands b + w * bandWidth bands b + j)) ∧
      ∀ i < 576, shape = .long ∨ shape = .mixed ∧ i < 36 → at0 y i = at0 (s.xr.get g c) i

/-- Reorder is a permutation of the 576 lines, at every sample rate there is and for every shape (R473). -/
def Obligations.ReorderPermutes : Prop :=
  ∀ (c : Config.Params) (rate : BitVec 2) (shape : Shape) (x : List XReal), TablesOk c → rate ≠ 3 → x.length = 576 →
    (reorderLines (bandsOf c rate) shape x).Perm x

/-! ## Stereo -/

/-- STEREO where the unit is the identity (R500, R511): mono, not joint stereo, or neither MS nor IS: only the tags
change, and OUT_INTER takes the arrays as they are. -/
def Obligations.StereoIdentity : Prop :=
  ∀ (s : State) (g : Gran), Ready s → s.frmValid = true → (∀ c ∈ chans s.frm.nch, s.tag.get g c = .reord) →
    s.frm.nch = 1 ∨ s.frm.hdr.mode ≠ 1 ∨ s.frm.hdr.modeExt = 0 →
    ∃ tags, exec (.stereo g) s = .next { s with
        tag := tags
        outInter := s.outInter ++ (chans s.frm.nch).flatMap fun c => interOf s g c .stereo (s.xr.get g c) } ∧
      (∀ c ∈ chans s.frm.nch, tags.get g c = .stereo) ∧
      ∀ g' c, g' ≠ g ∨ c ∉ chans s.frm.nch → tags.get g' c = s.tag.get g' c

/-- STEREO where the unit acts (R501-R509): a line of an eligible unit with a position up to 6 takes the IS ratios of
channel 0's value; any other line takes MS when it is on, and else stays. -/
def Obligations.StereoLines : Prop :=
  ∀ (s : State) (g : Gran), Ready s → TablesOk s.cfg → s.frmValid = true → s.frm.nch = 2 →
    s.cfg.isLastBand = .copyPrev →
    s.tag.get g .c0 = .reord → s.tag.get g .c1 = .reord → s.frm.hdr.mode = 1 → s.frm.hdr.modeExt ≠ 0 →
    ∃ l r : List XReal, l.length = 576 ∧ r.length = 576 ∧
      exec (.stereo g) s = .next { s with
        xr := (s.xr.set g .c0 l).set g .c1 r
        tag := (s.tag.set g .c0 .stereo).set g .c1 .stereo
        outInter := s.outInter ++ interOf s g .c0 .stereo l ++ interOf s g .c1 .stereo r } ∧
      ∀ i < 576, ∀ h p,
        UnitOf (bandsOf s.cfg s.frm.hdr.samplingIndex) (shapeOf (granInfo s.frm.si g s.cfg.isPosChannel))
          (s.md.get g s.cfg.isPosChannel).sf i h p →
        if s.frm.hdr.modeExt.getLsbD 0 = true ∧ (s.md.get g .c1).zpb ≤ h ∧ p ≤ 6 then
          lineR l i = lineR (s.xr.get g .c0) i * ratioLR p ∧ lineR r i = lineR (s.xr.get g .c0) i * ratioRR p
        else if s.frm.hdr.modeExt.getLsbD 1 = true then
          lineR l i = (lineR (s.xr.get g .c0) i + lineR (s.xr.get g .c1) i) / Real.sqrt 2 ∧
          lineR r i = (lineR (s.xr.get g .c0) i - lineR (s.xr.get g .c1) i) / Real.sqrt 2
        else lineR l i = lineR (s.xr.get g .c0) i ∧ lineR r i = lineR (s.xr.get g .c1) i

/-- The properties of R510: MS keeps the sum of squares and is its own inverse; IS splits channel 0's value; with IS off
the unit reads no scale factor and no zpb. -/
def Obligations.StereoProperties : Prop :=
  (∀ m s : XReal,
    (stereoLine true none m s).1.val ^ 2 + (stereoLine true none m s).2.val ^ 2 = m.val ^ 2 + s.val ^ 2 ∧
    (stereoLine true none (stereoLine true none m s).1 (stereoLine true none m s).2).1.val = m.val ∧
    (stereoLine true none (stereoLine true none m s).1 (stereoLine true none m s).2).2.val = s.val) ∧
  (∀ (ms : Bool) (p : Nat) (l r : XReal), p ≤ 6 →
    (stereoLine ms (some p) l r).1.val + (stereoLine ms (some p) l r).2.val = l.val) ∧
  (∀ (s : State) (g : Gran) (c : Chan) (d : PerPart PartData), isOn s.frm.hdr = false →
    stereoLines { s with md := d } g c = stereoLines s g c)

/-! ## Antialias and hybrid synthesis -/

/-- ANTIALIAS (R540-R543): the butterflies of the boundaries the block's shape has, each on the eight pairs around its
boundary; every other line stays. -/
def Obligations.Antialias : Prop :=
  ∀ (s : State) (g : Gran) (c : Chan) (kmax : Nat), PartReady s c → s.tag.get g c = .stereo →
    kmax = (match shapeOf (granInfo s.frm.si g c) with
      | .long => 31
      | .mixed => 1
      | .short => 0) →
    ∃ y : List XReal, y.length = 576 ∧
      exec (.antialias g c) s = .next { s with
        xr := s.xr.set g c y
        tag := s.tag.set g c .aa
        outInter := s.outInter ++ interOf s g c .aa y } ∧
      (∀ k, 1 ≤ k → k ≤ kmax → ∀ i < 8,
        lineR y (18 * k - 1 - i) =
          lineR (s.xr.get g c) (18 * k - 1 - i) * aaSR i - lineR (s.xr.get g c) (18 * k + i) * aaAR i ∧
        lineR y (18 * k + i) =
          lineR (s.xr.get g c) (18 * k + i) * aaSR i + lineR (s.xr.get g c) (18 * k - 1 - i) * aaAR i) ∧
      ∀ n < 576, (∀ k, 1 ≤ k → k ≤ kmax → n + 8 < 18 * k ∨ 18 * k + 8 ≤ n) → lineR y n = lineR (s.xr.get g c) n

/-- The butterflies keep the sum of squares over the granule (R544). -/
def Obligations.AntialiasKeepsEnergy : Prop :=
  ∀ (shape : Shape) (x : List XReal),
    ∑ n ∈ Finset.range 576, lineR (antialiasLines shape x) n ^ 2 = ∑ n ∈ Finset.range 576, lineR x n ^ 2

/-- HYBRID (R550-R557): every output is its subband's windowed transform plus the carry, and the carry of the channel
becomes the tails. That it is so on the carry found when the parts are run in another order than the source's is the
model's choice (log 20). -/
def Obligations.Hybrid : Prop :=
  ∀ (s : State) (g : Gran) (c : Chan) (bt : Nat) (shape : Shape), PartReady s c → s.tag.get g c = .aa →
    bt = (granInfo s.frm.si g c).blockType.toNat → shape = shapeOf (granInfo s.frm.si g c) →
    ∃ (y : List XReal) (tails : List (List XReal)), y.length = 576 ∧ tails.length = 32 ∧
      (∀ l ∈ tails, l.length = 18) ∧
      exec (.hybrid g c) s = .next { s with
        xr := s.xr.set g c y
        tag := s.tag.set g c .hyb
        ovl := s.ovl.set c tails
        outInter := s.outInter ++ interOf s g c .hyb y } ∧
      ∀ sb < 32, ∀ i < 18,
        lineR y (18 * sb + i) = hybridR shape bt (s.xr.get g c) sb i + lineR ((s.ovl.get c).getD sb []) i ∧
        lineR (tails.getD sb []) i = hybridR shape bt (s.xr.get g c) sb (18 + i)

/-! ## Frequency inversion, synthesis, reconstruction -/

/-- FREQINV (R580, R581): the odd samples of the odd subbands change sign, nothing else does; twice is the identity. -/
def Obligations.Freqinv : Prop :=
  (∀ (s : State) (g : Gran) (c : Chan), PartReady s c → s.tag.get g c = .hyb →
    ∃ y : List XReal, y.length = 576 ∧
      exec (.freqinv g c) s = .next { s with
        xr := s.xr.set g c y
        tag := s.tag.set g c .fi
        outInter := s.outInter ++ interOf s g c .fi y } ∧
      ∀ sb < 32, ∀ i < 18,
        lineR y (18 * sb + i) =
          if sb % 2 = 1 ∧ i % 2 = 1 then -lineR (s.xr.get g c) (18 * sb + i) else lineR (s.xr.get g c) (18 * sb + i)) ∧
  (∀ (x : List XReal) (n : Nat), n < 576 → lineR (freqInvLines (freqInvLines x)) n = lineR x n)

/-- SYNTH (R582-R589): at each of the 18 positions the matrixed samples of the enabled subbands are pushed onto the
history, and the 32 samples of the position are its window sums; they go to XR and, unclipped, to OUT_PCM. That it is
so on the history found when the parts are run in another order than the source's is the model's choice (log 20). -/
def Obligations.Synth : Prop :=
  ∀ (s : State) (g : Gran) (c : Chan), PartReady s c → s.tag.get g c = .fi →
    ∃ (pcm : List XReal) (v : Nat → List XReal) (h : Nat → List (List XReal)), pcm.length = 576 ∧
      exec (.synth g c) s = .next { s with
        xr := s.xr.set g c pcm
        tag := s.tag.set g c .syn
        vh := s.vh.set c (h 18)
        outPcm := s.outPcm.set c (s.outPcm.get c ++ pcm)
        outInter := s.outInter ++ interOf s g c .syn pcm } ∧
      h 0 = s.vh.get c ∧
      ∀ ss < 18, h (ss + 1) = v ss :: (h ss).take 15 ∧ (v ss).length = 64 ∧
        (∀ i < 64, lineR (v ss) i = ∑ k ∈ Finset.range 32,
          Real.cos ((16 + i) * (2 * k + 1) * Real.pi / 64) *
            (if s.bandMask.getLsbD k then lineR (s.xr.get g c) (18 * k + ss) else 0)) ∧
        ∀ j < 32, lineR pcm (32 * ss + j) = ∑ i ∈ Finset.range 8,
          (lineR ((h (ss + 1)).getD (2 * i) []) j * Config.synthD (64 * i + j) +
            lineR ((h (ss + 1)).getD (2 * i + 1) []) (32 + j) * Config.synthD (64 * i + 32 + j))

/-- RECONSTRUCT (R590): it completes whenever a decoded frame has no stage run on it yet; RESULT0 is the number of
samples, each channel of the frame gets 1152 of them, and every tag becomes SYN; where the main data is decoded it does
what the unit commands of the two granules do in the rule's order. -/
def Obligations.ReconstructIsTheChain : Prop :=
  ∀ (s : State), Ready s → s.frmValid = true → s.mdValid = true → s.frm.nch = 1 ∨ s.frm.nch = 2 →
    (∀ q ∈ parts s.frm.nch, s.tag.get q.1 q.2 = .none) →
    (∃ t, exec .reconstruct s = .next t ∧ t.result0 = BitVec.ofNat 32 (1152 * s.frm.nch) ∧ t.result1 = s.result1 ∧
      (∀ q ∈ parts s.frm.nch, t.tag.get q.1 q.2 = .syn) ∧
      (∀ c ∈ chans s.frm.nch, ∃ l, l.length = 1152 ∧ t.outPcm.get c = s.outPcm.get c ++ l) ∧
      (s.frm.nch = 1 → t.outPcm.c1 = s.outPcm.c1 ∧ t.ovl.c1 = s.ovl.c1 ∧ t.vh.c1 = s.vh.c1) ∧
      t.md = s.md ∧ t.mdst = s.mdst ∧ t.frm = s.frm ∧ t.err = s.err) ∧
    ((∀ q ∈ parts s.frm.nch, s.mdst.get q.1 q.2 = .huf) →
      ∃ u, runAll (granuleChain s.frm.nch .g0 ++ granuleChain s.frm.nch .g1) s = some u ∧
        exec .reconstruct s = .next { u with result0 := BitVec.ofNat 32 (1152 * s.frm.nch) })

/-! ## Run control and the sequencer -/

/-- NOP changes nothing (R200). RESET, in any mode, gives the state after power-on but for IN and IN_LEN (R201, R671), and
power-on itself, a move of the model (log 7), gives that state (R670, R671); the parameters and the model's own lists are
kept. The contents R64 leaves unspecified are then those log 1 (FRM, MD, XR) and log 2 (IN) choose. RUN, in IDLE and DONE,
clears the run state and starts a run at byte 0, keeping ERR, the results and the host's registers (R202, R675). -/
def Obligations.NopResetRun : Prop :=
  (∀ s : State, Ready s → exec .nop s = .next s) ∧
  (∀ s : State, exec .reset s = .next { State.reset with
    inLen := s.inLen, mem := s.mem, cfg := s.cfg, moves := s.moves, readLog := s.readLog }) ∧
  (∀ (s : State) (ms : List Move), s.moves = .powerOn :: ms →
    step s = .next { State.reset with cfg := s.cfg, moves := ms, readLog := s.readLog }) ∧
  (∀ s : State, Ready s → exec .run s = .next { s with
    mode := .running, found := false, stopped := false, frmValid := false, mdValid := false
    frameCnt := 0, ckptInfo := 0, inPos := 0, mdPos := 0, mdbuf := [], hist := [], mdRef := []
    mdst := .const .none, tag := .const .none
    ovl := ⟨List.replicate 32 (List.replicate 18 (.int 0)), List.replicate 32 (List.replicate 18 (.int 0))⟩
    vh := ⟨List.replicate 16 (List.replicate 64 (.int 0)), List.replicate 16 (List.replicate 64 (.int 0))⟩
    outFrames := [], outMaindata := [], outPcm := ⟨[], []⟩, outByteref := [], outInter := [], outDiag := []
    outBytes := [] })

/-- REPLY (R212, R213): at a checkpoint, CONT = 1 goes on with the run and CONT = 0 stops it; in IDLE and DONE it is
IllegalCommand. -/
def Obligations.Reply : Prop :=
  ∀ s : State,
    (s.mode = .checkpoint → s.arg.getLsbD 0 = true → exec .reply s = .next { s with mode := .running }) ∧
    (s.mode = .checkpoint → s.arg.getLsbD 0 = false → exec .reply s = .next { s with
      mode := .idle, stopped := true, irqStatus := s.irqStatus ||| 0b010 }) ∧
    (Ready s → exec .reply s = .next { s with err := 0x00040411, irqStatus := s.irqStatus ||| 0b100 })

/-- STEP (R214): in DONE it writes the results only; in IDLE it attempts frames until the outcome is not Resync, then
reports the frame, or the end of the input. -/
def Obligations.StepCommand : Prop :=
  ∀ s : State,
    (s.mode = .done → exec .step s = .next { s with result0 := 0xFFFFFFFF, result1 := 0 }) ∧
    (s.mode = .idle →
      (∀ t, frameAttempt 0x03 s = (.resync, t) → t.mode = .idle ∧ exec .step s = exec .step t) ∧
      (∀ t, frameAttempt 0x03 s = (.frame, t) → exec .step s = .next { t with
        result0 := t.frameCnt - 1, result1 := t.ckptInfo, irqStatus := t.irqStatus ||| 0b001 }) ∧
      (∀ t, frameAttempt 0x03 s = (.finished, t) → t = s ∧ exec .step s = .next { s with
        result0 := 0xFFFFFFFF, result1 := 0, mode := .done, irqStatus := s.irqStatus ||| 0b010 }) ∧
      ∃ t, exec .step s = .next t)

/-- A sequencer step (R203, R204, R208, R210): with no 0xFF byte left the run ends; a candidate that does not parse is
recorded and passed by one byte; a frame is committed with the next index, the position is just after it, and the block
enters CHECKPOINT; the host's registers and the results are unchanged. That the scan leaves STATUS.FOUND is the model's
deduction (log 16). -/
def Obligations.SequencerStep : Prop :=
  ∀ s : State, s.mode = .running → s.moves = [] → TablesOk s.cfg →
    ((∀ j, (s.inPos + 7) / 8 ≤ j → j < s.inLen.toNat → streamByte s .inp j ≠ 0xFF) →
      step s = .next { s with mode := .done, irqStatus := s.irqStatus ||| 0b010 }) ∧
    (∀ j, (s.inPos + 7) / 8 ≤ j → j < s.inLen.toNat → streamByte s .inp j = 0xFF →
      (∀ i, (s.inPos + 7) / 8 ≤ i → i < j → streamByte s .inp i ≠ 0xFF) →
      (∀ e p, parseFrame s.cfg (src s .inp) (8 * j) = .err e p →
        step s = .next { s with
          inPos := 8 * (j + 1)
          err := 0x00020100 + e.code.zeroExtend 32
          irqStatus := s.irqStatus ||| 0b100 }) ∧
      (∀ f p, parseFrame s.cfg (src s .inp) (8 * j) = .ok f p →
        ∃ t, step s = .next t ∧ t.mode = .checkpoint ∧ t.irqStatus.getLsbD 0 = true ∧
          t.frameCnt = s.frameCnt + 1 ∧ t.frm = { f with fidx := s.frameCnt.toNat } ∧ t.frmValid = true ∧
          t.inPos = 8 * (j + f.size) ∧ f.off = j ∧ t.ckptInfo.getLsbD 1 = decide (f.nch ≠ 1) ∧
          (∃ o, t.outFrames = s.outFrames ++ [o] ∧ o.frame = t.frm) ∧
          t.result0 = s.result0 ∧ t.result1 = s.result1 ∧ t.arg = s.arg ∧ t.bandMask = s.bandMask ∧
          t.irqEnable = s.irqEnable ∧ t.mem = s.mem ∧ t.inLen = s.inLen ∧ t.cfg = s.cfg ∧ t.readLog = s.readLog ∧
          t.found = s.found ∧ t.stopped = s.stopped))

/-- After a parsed frame (R205-R207, R626): its payload is in the history either way; a frame that was not decoded
leaves the carry, the PCM, OUT_MAINDATA and OUT_INTER alone, with the error's code in CKPT_INFO; a decoded one gives
1152 samples to each of its channels and one element to OUT_MAINDATA. -/
def Obligations.FrameOutcome : Prop :=
  ∀ (s t : State) (f : Frame) (j p : Nat), s.mode = .running → s.moves = [] → (s.inPos + 7) / 8 ≤ j →
    j < s.inLen.toNat → streamByte s .inp j = 0xFF → (∀ i, (s.inPos + 7) / 8 ≤ i → i < j → streamByte s .inp i ≠ 0xFF) →
    parseFrame s.cfg (src s .inp) (8 * j) = .ok f p → step s = .next t →
    t.hist = (histPush { s with frm := { f with fidx := s.frameCnt.toNat } }).hist ∧
    (t.ckptInfo.getLsbD 0 = false →
      t.ovl = s.ovl ∧ t.vh = s.vh ∧ t.outPcm = s.outPcm ∧ t.outMaindata = s.outMaindata ∧ t.outInter = s.outInter ∧
      t.mdValid = false ∧ t.err.extractLsb' 16 8 = 0x02 ∧ t.ckptInfo.extractLsb' 8 8 = t.err.extractLsb' 0 8 ∧
      t.irqStatus.getLsbD 2 = true) ∧
    (t.ckptInfo.getLsbD 0 = true →
      t.err = s.err ∧ t.ckptInfo.extractLsb' 8 8 = 0 ∧ t.mdValid = true ∧
      (∃ o, t.outMaindata = s.outMaindata ++ [o]) ∧
      ∀ c ∈ chans f.nch, ∃ l, l.length = 1152 ∧ t.outPcm.get c = s.outPcm.get c ++ l)

/-- A run terminates (R219): when the host answers every checkpoint with CONTINUE, the run is over after at most two turns
for each byte of the input and two more. -/
def Obligations.RunTerminates : Prop :=
  ∀ s : State, s.mode = .running ∨ s.mode = .checkpoint →
    ∃ n ≤ 2 * (s.inLen.toNat + 1), (continueRuns n s).mode = .done

/-! ## Registers, memory, reset -/

/-- After power-on the registers read as R33 and R64 give them, the positions are 0, the buffers and outputs empty, OVL and
VH all 0, nothing is decoded or tagged (R64), and every invariant below holds, that the tables are those of R291, R392 and
R393 among them. The contents R64 leaves open are the model's (logs 1, 2 and 3), which the invariants take. -/
def Obligations.ResetState : Prop :=
  readReg State.reset 0x00 = 0 ∧
  readReg State.reset 0x04 = 0 ∧ readReg State.reset 0x08 = 0 ∧ readReg State.reset 0x0C = 0 ∧
  readReg State.reset 0x10 = 0x0000000C ∧ readReg State.reset 0x14 = 0 ∧ readReg State.reset 0x18 = 0xFFFFFFFF ∧
  readReg State.reset 0x1C = 0 ∧ readReg State.reset 0x20 = 0 ∧ readReg State.reset 0x24 = 0 ∧
  readReg State.reset 0x28 = 0 ∧ readReg State.reset 0x2C = 0 ∧ State.reset.mode = .idle ∧
  State.reset.found = false ∧ State.reset.stopped = false ∧ State.reset.frmValid = false ∧
  State.reset.mdValid = false ∧ State.reset.inPos = 0 ∧ State.reset.mdPos = 0 ∧ State.reset.hist = [] ∧
  State.reset.mdbuf = [] ∧ State.reset.mdRef = [] ∧
  (∀ g c, State.reset.mdst.get g c = .none ∧ State.reset.tag.get g c = .none) ∧
  (∀ c, State.reset.ovl.get c = List.replicate 32 (List.replicate 18 (.int 0)) ∧
    State.reset.vh.get c = List.replicate 16 (List.replicate 64 (.int 0)) ∧ State.reset.outPcm.get c = []) ∧
  State.reset.outFrames = [] ∧ State.reset.outMaindata = [] ∧ State.reset.outByteref = [] ∧
  State.reset.outInter = [] ∧ State.reset.outDiag = [] ∧ State.reset.outBytes = [] ∧
  MemoryOk State.reset ∧ ArraysOk State.reset ∧ SpectrumOk State.reset ∧ StagesOk State.reset ∧
  OutputsOk State.reset ∧ RecordsOk State.reset

/-- The register map (R33, R36-R39, R45-R47, R49-R51): what each host write changes, what each offset reads, that a read
changes nothing but the list of values read, which is the model's own (log 7), that STATUS is made of its fields (R38), and
that accesses outside the map read 0 and change nothing. That a write of IN_LEN in a run stops the model is its way to
have no such move (R680, log 8). -/
def Obligations.RegisterMap : Prop :=
  ∀ (s : State) (v : Word) (ms : List Move),
    (s.moves = .write 0x04 v :: ms → step s = .next { s with moves := ms, arg := v }) ∧
    (s.moves = .write 0x18 v :: ms → step s = .next { s with moves := ms, bandMask := v }) ∧
    (s.moves = .write 0x20 v :: ms →
      (Ready s → step s = .next { s with moves := ms, inLen := v }) ∧
      (¬ Ready s → step s = .refused .hostDutyDuringRun)) ∧
    (s.moves = .write 0x24 v :: ms →
      ∃ q : BitVec 3, step s = .next { s with moves := ms, irqStatus := q } ∧
        ∀ k < 3, q.getLsbD k = (s.irqStatus.getLsbD k && !v.getLsbD k)) ∧
    (s.moves = .write 0x28 v :: ms →
      ∃ q : BitVec 3, step s = .next { s with moves := ms, irqEnable := q } ∧ ∀ k < 3, q.getLsbD k = v.getLsbD k) ∧
    (∀ off, off ∉ [0x00, 0x04, 0x18, 0x20, 0x24, 0x28] → s.moves = .write off v :: ms →
      step s = .next { s with moves := ms }) ∧
    (∀ off, s.moves = .read off :: ms → step s = .next { s with
      moves := ms, readLog := s.readLog ++ [(off, readReg { s with moves := ms } off)] }) ∧
    (∀ off, off ∉ [0x04, 0x08, 0x0C, 0x10, 0x14, 0x18, 0x1C, 0x20, 0x24, 0x28, 0x2C] → readReg s off = 0) ∧
    readReg s 0x04 = s.arg ∧ readReg s 0x08 = s.result0 ∧ readReg s 0x0C = s.result1 ∧ readReg s 0x14 = s.err ∧
    readReg s 0x18 = s.bandMask ∧ readReg s 0x1C = s.frameCnt ∧ readReg s 0x20 = s.inLen ∧
    readReg s 0x2C = s.ckptInfo ∧
    (∀ k < 32, (readReg s 0x24).getLsbD k = s.irqStatus.getLsbD k ∧
      (readReg s 0x28).getLsbD k = s.irqEnable.getLsbD k) ∧
    (readReg s 0x10).extractLsb' 0 2 = s.mode.code ∧
    (readReg s 0x10).getLsbD 2 = decide (8 * s.inLen.toNat ≤ s.inPos) ∧
    (readReg s 0x10).getLsbD 3 = decide (8 * s.mdbuf.length ≤ s.mdPos) ∧ (readReg s 0x10).getLsbD 4 = s.found ∧
    (readReg s 0x10).getLsbD 5 = s.stopped ∧ (readReg s 0x10).getLsbD 6 = s.frmValid ∧
    (readReg s 0x10).getLsbD 7 = s.mdValid ∧ (readReg s 0x10).extractLsb' 8 8 = s.err.extractLsb' 0 8 ∧
    (readReg s 0x10).extractLsb' 16 16 = 0 ∧
    irqLine s = ((s.irqStatus.getLsbD 0 && s.irqEnable.getLsbD 0) || (s.irqStatus.getLsbD 1 && s.irqEnable.getLsbD 1) ||
      (s.irqStatus.getLsbD 2 && s.irqEnable.getLsbD 2))

/-- A host write of IN outside a run puts the byte at its address and nowhere else (R101, R119). That it stops the model
in a run, or at or above IN_MAX, is the model's way to have no such move (R680, log 8). -/
def Obligations.HostWritesInput : Prop :=
  ∀ (s : State) (a : Nat) (b : Byte) (ms : List Move), s.moves = .writeIn a b :: ms → s.mem.wf →
    (Ready s → a < s.cfg.inMax → ∃ m : Memory, m.wf ∧ step s = .next { s with moves := ms, mem := m } ∧
      m.read a = b ∧ ∀ a', a' ≠ a → m.read a' = s.mem.read a') ∧
    (¬ Ready s → step s = .refused .hostDutyDuringRun) ∧
    (Ready s → s.cfg.inMax ≤ a → step s = .fault .inAddressAbsent)

/-! ## Invariants every step keeps -/

/-- IN keeps its canonical form and its bounds, and the parameters stay, through every step (R7, R100, R101). -/
def Obligations.MemoryKept : Prop :=
  ∀ s t : State, MemoryOk s → step s = .next t → MemoryOk t ∧ t.cfg = s.cfg

/-- The arrays keep their sizes and the spectra their ranges through every step (R55, R57-R59, R356, R357). -/
def Obligations.SpectraKept : Prop :=
  ∀ s t : State, ArraysOk s → SpectrumOk s → step s = .next t → ArraysOk t ∧ SpectrumOk t

/-- Frame, main data and stages go on agreeing through every step (R42, R48, R56, R303, R421, R681). -/
def Obligations.StagesKept : Prop :=
  ∀ s t : State, StagesOk s → step s = .next t → StagesOk t

/-- Outputs and registers go on agreeing, and ERR and CKPT_INFO hold words their rules can make, through every step
(R39, R46, R51, R209, R210, R316, R621). -/
def Obligations.RecordsKept : Prop :=
  ∀ s t : State, OutputsOk s → RecordsOk s → step s = .next t → OutputsOk t ∧ RecordsOk t
end

