-- ==== Sys2Proof/Laws/Act.lean ====
section
/-! SUPPORT. What the combinators of actions and the command wrapper can do, said once. -/

namespace Sys2Proof.Machine

theorem Act.pure_apply {σ α : Type} (a : α) (s : σ) : Act.pure a s = .ok a s := rfl

theorem Act.raise_apply {σ α : Type} (e : Err) (s : σ) : (Act.raise e : Act σ α) s = .err e s := rfl

theorem Act.bind_of_ok {σ α β : Type} {x : Act σ α} {f : α → Act σ β} {s t : σ} {a : α} (h : x s = .ok a t) :
    x.bind f s = f a t := by simp [Act.bind, h]

theorem Act.bind_of_err {σ α β : Type} {x : Act σ α} {f : α → Act σ β} {s t : σ} {e : Err} (h : x s = .err e t) :
    x.bind f s = .err e t := by simp [Act.bind, h]

/-- A sequence succeeds exactly when both parts do. -/
theorem Act.bind_eq_ok {σ α β : Type} {x : Act σ α} {f : α → Act σ β} {s u : σ} {b : β} :
    x.bind f s = .ok b u ↔ ∃ a t, x s = .ok a t ∧ f a t = .ok b u := by
  unfold Act.bind
  cases x s <;> simp

/-- A sequence fails exactly when its first part does, or its first part succeeds and its second part fails. -/
theorem Act.bind_eq_err {σ α β : Type} {x : Act σ α} {f : α → Act σ β} {s u : σ} {e : Err} :
    x.bind f s = .err e u ↔ x s = .err e u ∨ ∃ a t, x s = .ok a t ∧ f a t = .err e u := by
  unfold Act.bind
  cases x s <;> simp

@[simp] theorem Act.pure_bind {σ α β : Type} (a : α) (f : α → Act σ β) : (Act.pure a).bind f = f a := rfl

theorem Act.bind_assoc {σ α β γ : Type} (x : Act σ α) (f : α → Act σ β) (g : β → Act σ γ) :
    (x.bind f).bind g = x.bind fun a => (f a).bind g := by
  funext s
  simp only [Act.bind]
  cases x s <;> rfl

theorem Act.need_of_true {σ : Type} {p : σ → Bool} {e : Err} {s : σ} (h : p s = true) : Act.need p e s = .ok () s := by
  simp [Act.need, h]

theorem Act.need_of_false {σ : Type} {p : σ → Bool} {e : Err} {s : σ} (h : p s = false) :
    Act.need p e s = .err e s := by simp [Act.need, h]

theorem Act.modify_apply {σ : Type} (f : σ → σ) (s : σ) : Act.modify f s = .ok () (f s) := rfl

/-- `check` succeeds exactly when the action does and its answer passes. -/
theorem Act.check_eq_ok {σ α : Type} {x : Act σ α} {p : α → Bool} {e : Err} {s t : σ} {a : α} :
    x.check p e s = .ok a t ↔ x s = .ok a t ∧ p a = true := by
  unfold Act.check Act.bind
  cases h : x s with
  | ok b u =>
    by_cases hp : p b = true
    · simp only [hp, if_true, Act.pure]
      constructor
      · intro h'; cases h'; exact ⟨rfl, hp⟩
      · rintro ⟨h', -⟩; cases h'; rfl
    · simp only [if_neg hp, Act.raise_apply]
      constructor
      · intro h'; simp at h'
      · rintro ⟨h', hp'⟩; cases h'; exact absurd hp' hp
  | err e' u => simp

/-- A failed `check`: the action failed, or its answer did not pass. -/
theorem Act.check_eq_err {σ α : Type} {x : Act σ α} {p : α → Bool} {e e' : Err} {s t : σ} :
    x.check p e s = .err e' t ↔ x s = .err e' t ∨ ∃ a, x s = .ok a t ∧ p a = false ∧ e' = e := by
  unfold Act.check Act.bind
  cases h : x s with
  | ok b u =>
    by_cases hp : p b = true
    · simp only [hp, if_true, Act.pure]
      constructor
      · intro h'; simp at h'
      · rintro (h' | ⟨a, h', ha, -⟩)
        · simp at h'
        · cases h'; simp [hp] at ha
    · simp only [if_neg hp, Act.raise_apply]
      constructor
      · intro h'; simp at h'; exact .inr ⟨b, by simp [h'.2], by simpa using hp, h'.1.symm⟩
      · rintro (h' | ⟨a, h', -, rfl⟩)
        · simp at h'
        · cases h'; rfl
  | err e'' u => simp

/-- A command in a mode that refuses it records Busy and does nothing else (R35). -/
theorem command_busy {opc : BitVec 8} {main : Bool} {body : Cmd Unit} {s : State} (h : modeRefuses s.mode opc = true) :
    command opc main body s = .next (record .busy .command opc s) := by simp [command, h]

/-- A command whose body succeeds. -/
theorem command_ok {opc : BitVec 8} {main : Bool} {body : Cmd Unit} {s t : State} (h : modeRefuses s.mode opc = false)
    (hb : body s = .ok () t) : command opc main body s = .next t := by simp [command, h, hb]

/-- A command whose body raises an error (R620). -/
theorem command_err {opc : BitVec 8} {main : Bool} {body : Cmd Unit} {s t : State} {e : Err}
    (h : modeRefuses s.mode opc = false) (hb : body s = .err e t) :
    command opc main body s = .next (record e (e.cls main) opc t) := by simp [command, h, hb]

/-- Every outcome of a command is a next state: Busy, its body's, or an error recorded (R622, R623). -/
theorem command_cases (opc : BitVec 8) (main : Bool) (body : Cmd Unit) (s : State) :
    (modeRefuses s.mode opc = true ∧ command opc main body s = .next (record .busy .command opc s)) ∨
    (modeRefuses s.mode opc = false ∧ ∃ t, body s = .ok () t ∧ command opc main body s = .next t) ∨
    (modeRefuses s.mode opc = false ∧ ∃ e t, body s = .err e t ∧
      command opc main body s = .next (record e (e.cls main) opc t)) := by
  cases h : modeRefuses s.mode opc with
  | true => exact .inl ⟨rfl, command_busy h⟩
  | false =>
    cases hb : body s with
    | ok a t => exact .inr (.inl ⟨rfl, t, rfl, command_ok h hb⟩)
    | err e t => exact .inr (.inr ⟨rfl, e, t, rfl, command_err h hb⟩)

theorem modeRefuses_idle (opc : BitVec 8) : modeRefuses .idle opc = false := rfl

theorem modeRefuses_done (opc : BitVec 8) : modeRefuses .done opc = false := rfl

/-- A reader action as an action of the block, when it succeeds. -/
theorem onReader_ok {α : Type} {r : Reader} {f : Src → Rd α} {s : State} {a : α} {p : Nat}
    (h : f (src s r) (readerPos s r) = .ok a p) : onReader r f s = .ok a (setPos s r p) := by simp [onReader, h]

/-- A reader action as an action of the block, when it fails: the position it left is kept (R620). -/
theorem onReader_err {α : Type} {r : Reader} {f : Src → Rd α} {s : State} {e : Err} {p : Nat}
    (h : f (src s r) (readerPos s r) = .err e p) : onReader r f s = .err e (setPos s r p) := by simp [onReader, h]

/-- All a reader action can do to the block: move the reader's position. -/
theorem onReader_cases {α : Type} (r : Reader) (f : Src → Rd α) (s : State) :
    (∃ a p, f (src s r) (readerPos s r) = .ok a p ∧ onReader r f s = .ok a (setPos s r p)) ∨
    (∃ e p, f (src s r) (readerPos s r) = .err e p ∧ onReader r f s = .err e (setPos s r p)) := by
  cases h : f (src s r) (readerPos s r) with
  | ok a p => exact .inl ⟨a, p, rfl, onReader_ok h⟩
  | err e p => exact .inr ⟨e, p, rfl, onReader_err h⟩

end Sys2Proof.Machine
end

