-- ==== Sys2Proof/Laws/Dispatch.lean ====
section
/-! SUPPORT. What every command shares: it is an opcode's command wrapper around a body, and always answers a next
state. -/

namespace Sys2Proof.Machine

/-- Every command is the wrapper of R623 around a body, under its own opcode. -/
theorem exec_is_command (i : Instr) (s : State) :
    ∃ (main : Bool) (body : Cmd Unit), exec i s = command i.opcode main body s := by
  cases i <;>
    simp only [exec, execNop, execReset, execRun, execStep, execReply, execBrReadBits, execBrReadBytes, execBrSeek,
      execBrFindByte, execBrTell, execBrEof, execParseHeader, execParseSideinfo, execParseFrame, execResolve,
      execHistPush, execHuffPair, execHuffQuad, execHuffGranule, execScalefac, execMaindata, execRequant, execReorder,
      execStereo, execAntialias, execHybrid, execFreqinv, execSynth, execReconstruct] <;>
    exact ⟨_, _, rfl⟩

/-- Every command, in every state, answers a next state (R623). -/
theorem exec_next (i : Instr) (s : State) : ∃ t, exec i s = .next t := by
  obtain ⟨main, body, h⟩ := exec_is_command i s
  rw [h]
  rcases command_cases i.opcode main body s with ⟨-, h⟩ | ⟨-, t, -, h⟩ | ⟨-, e, t, -, h⟩ <;> exact ⟨_, h⟩

/-- A step whose next move is a write to CMD runs the word. -/
theorem step_write_cmd {s : State} {w : Word} {ms : List Move} (h : s.moves = .write 0 w :: ms) :
    step s = runWord w { s with moves := ms } := by simp [step, h, perform, commandWord]

/-- A word that decodes is its command. -/
theorem runWord_of_ok {w : Word} {i : Instr} (h : decode w = .ok i) (s : State) : runWord w s = exec i s := by
  simp [runWord, h]

/-- A word that does not decode is refused (R140, R624). -/
theorem runWord_of_error {w : Word} {e : DecodeError} (h : decode w = .error e) (s : State) :
    runWord w s = .next (illegalWord w s) := by simp [runWord, h]

end Sys2Proof.Machine
end

