-- ==== Sys2Proof/Laws/ExactReal.lean ====
section
/-! SUPPORT. Every operation on expressions is the operation on the reals they denote (log 4), and the entries of an
array made by `table`. -/

namespace Sys2Proof.Machine

@[simp] theorem XReal.val_int (z : Int) : (XReal.int z).val = (z : ℝ) := rfl
@[simp] theorem XReal.val_add (a b : XReal) : (XReal.add a b).val = a.val + b.val := rfl
@[simp] theorem XReal.val_mul (a b : XReal) : (XReal.mul a b).val = a.val * b.val := rfl
@[simp] theorem XReal.val_div (a b : XReal) : (XReal.div a b).val = a.val / b.val := rfl
@[simp] theorem XReal.val_neg (a : XReal) : (XReal.neg a).val = -a.val := rfl
@[simp] theorem XReal.val_sqrt (a : XReal) : (XReal.sqrt a).val = Real.sqrt a.val := rfl
@[simp] theorem XReal.val_cosPi (p : Int) (q : Nat) : (XReal.cosPi p q).val = Real.cos (Real.pi * p / q) := rfl
@[simp] theorem XReal.val_sinPi (p : Int) (q : Nat) : (XReal.sinPi p q).val = Real.sin (Real.pi * p / q) := rfl
@[simp] theorem XReal.val_tanPi (p : Int) (q : Nat) : (XReal.tanPi p q).val = Real.tan (Real.pi * p / q) := rfl
@[simp] theorem XReal.val_synthD (i : Nat) : (XReal.synthD i).val = Config.synthD i := rfl

@[simp] theorem XReal.val_plus (a b : XReal) : (a.plus b).val = a.val + b.val := by
  unfold XReal.plus
  split
  · next h => simp [h]
  · split
    · next h => simp [h]
    · rfl

@[simp] theorem XReal.val_negate (a : XReal) : a.negate.val = -a.val := by
  cases a <;> simp [XReal.negate]

@[simp] theorem XReal.val_minus (a b : XReal) : (a.minus b).val = a.val - b.val := by
  simp [XReal.minus, sub_eq_add_neg]

@[simp] theorem XReal.val_times (a b : XReal) : (a.times b).val = a.val * b.val := by
  unfold XReal.times
  split
  · next h => rcases h with h | h <;> simp [h]
  · split
    · next h => simp [h]
    · split
      · next h => simp [h]
      · rfl

@[simp] theorem XReal.val_over (a b : XReal) : (a.over b).val = a.val / b.val := by
  unfold XReal.over
  split
  · next h => simp [h]
  · rfl

@[simp] theorem XReal.val_power (base : Nat) (p : Int) (q : Nat) :
    (XReal.power base p q).val = (base : ℝ) ^ ((p : ℝ) / (q : ℝ)) := by
  unfold XReal.power
  split
  · next h => simp [h]
  · rfl

@[simp] theorem XReal.val_sum (n : Nat) (f : Nat → XReal) :
    (XReal.sum n f).val = ∑ i ∈ Finset.range n, (f i).val := by
  induction n with
  | zero => simp [XReal.sum]
  | succ n ih => simp [XReal.sum, ih, Finset.sum_range_succ]

@[simp] theorem table_length {α : Type} (n : Nat) (f : Nat → α) : (table n f).length = n := by simp [table]

theorem table_getElem? {α : Type} (n : Nat) (f : Nat → α) (i : Nat) :
    (table n f)[i]? = if i < n then some (f i) else none := by
  by_cases h : i < n <;> simp [table, h]

theorem table_getD {α : Type} {n i : Nat} (f : Nat → α) (d : α) (h : i < n) : (table n f).getD i d = f i := by
  simp [table, List.getD, h]

/-- Entry i of an array of reals made by `table`. -/
theorem at0_table {n i : Nat} (f : Nat → XReal) (h : i < n) : at0 (table n f) i = f i := table_getD f _ h

/-- An entry past the end is 0. -/
theorem at0_of_length_le {x : List XReal} {i : Nat} (h : x.length ≤ i) : at0 x i = .zero := by
  simp [at0, List.getD, h]

end Sys2Proof.Machine
end

