-- ==== Sys2Proof/Laws/Memory.lean ====
section
/-! SUPPORT. The laws of IN: every operation keeps the canonical form, and a write is read back at its address and
nowhere else. -/

namespace Sys2Proof.Machine

theorem Memory.erase_subset (m : Memory) (a : Nat) : ∀ c ∈ m.erase a, c ∈ m := by
  induction m with
  | nil => simp [Memory.erase]
  | cons d m ih =>
    intro c hc
    simp only [Memory.erase] at hc
    split at hc
    · exact List.mem_cons_of_mem _ hc
    · rcases List.mem_cons.mp hc with rfl | h
      · simp
      · exact List.mem_cons_of_mem _ (ih c h)

theorem Memory.wf_tail {c : Host.Cell} {m : Memory} (h : Memory.wf (c :: m)) : m.wf :=
  ⟨(List.pairwise_cons.mp h.1).2, fun d hd => h.2 d (List.mem_cons_of_mem _ hd)⟩

theorem Memory.wf_erase {m : Memory} (h : m.wf) (a : Nat) : (m.erase a).wf := by
  induction m with
  | nil => exact h
  | cons d m ih =>
    simp only [Memory.erase]
    split
    · exact Memory.wf_tail h
    · have h' := ih (Memory.wf_tail h)
      refine ⟨List.pairwise_cons.mpr ⟨fun c hc => (List.pairwise_cons.mp h.1).1 c (Memory.erase_subset m a c hc), h'.1⟩,
        fun c hc => ?_⟩
      rcases List.mem_cons.mp hc with rfl | hc
      · exact h.2 _ (by simp)
      · exact h'.2 c hc

/-- After an erase no entry has the address. -/
theorem Memory.erase_ne {m : Memory} (h : m.wf) (a : Nat) : ∀ c ∈ m.erase a, c.1 ≠ a := by
  induction m with
  | nil => simp [Memory.erase]
  | cons d m ih =>
    intro c hc
    simp only [Memory.erase] at hc
    split at hc
    · next hd => have := (List.pairwise_cons.mp h.1).1 c hc; omega
    · next hd =>
      rcases List.mem_cons.mp hc with rfl | hc
      · exact hd
      · exact ih (Memory.wf_tail h) c hc

theorem Memory.mem_insert {m : Memory} {a : Nat} {v : Byte} {c : Host.Cell} (h : c ∈ m.insert a v) :
    c = (a, v) ∨ c ∈ m := by
  induction m with
  | nil => left; simpa [Memory.insert] using h
  | cons d m ih =>
    simp only [Memory.insert] at h
    split at h
    · rcases List.mem_cons.mp h with h | h
      · exact .inl h
      · exact .inr h
    · rcases List.mem_cons.mp h with rfl | h
      · simp
      · rcases ih h with h | h
        · exact .inl h
        · exact .inr (List.mem_cons_of_mem _ h)

theorem Memory.wf_insert {m : Memory} (h : m.wf) {a : Nat} {v : Byte} (hv : v ≠ powerOnByte)
    (ha : ∀ c ∈ m, c.1 ≠ a) : (m.insert a v).wf := by
  induction m with
  | nil => exact ⟨by simp [Memory.insert], by simpa [Memory.insert] using hv⟩
  | cons d m ih =>
    simp only [Memory.insert]
    have hd : d.1 ≠ a := ha d (by simp)
    split
    · next hlt =>
      refine ⟨List.pairwise_cons.mpr ⟨fun c hc => ?_, h.1⟩, fun c hc => ?_⟩
      · rcases List.mem_cons.mp hc with rfl | hc
        · exact hlt
        · exact Nat.lt_trans hlt ((List.pairwise_cons.mp h.1).1 c hc)
      · rcases List.mem_cons.mp hc with rfl | hc
        · exact hv
        · exact h.2 c hc
    · next hge =>
      have h' := ih (Memory.wf_tail h) (fun c hc => ha c (List.mem_cons_of_mem _ hc))
      refine ⟨List.pairwise_cons.mpr ⟨fun c hc => ?_, h'.1⟩, fun c hc => ?_⟩
      · rcases Memory.mem_insert hc with rfl | hc
        · simp only at hge hd ⊢; omega
        · exact (List.pairwise_cons.mp h.1).1 c hc
      · rcases List.mem_cons.mp hc with rfl | hc
        · exact h.2 _ (by simp)
        · exact h'.2 c hc

/-- A write keeps the canonical form. -/
theorem Memory.wf_write {m : Memory} (h : m.wf) (a : Nat) (v : Byte) : (m.write a v).wf := by
  unfold Memory.write
  split
  · exact Memory.wf_erase h a
  · next hv => exact Memory.wf_insert (Memory.wf_erase h a) hv (Memory.erase_ne h a)

theorem Memory.read_of_ne {m : Memory} {a : Nat} (h : ∀ c ∈ m, c.1 ≠ a) : m.read a = powerOnByte := by
  induction m with
  | nil => rfl
  | cons d m ih =>
    simp only [Memory.read]
    rw [if_neg (h d (by simp))]
    exact ih fun c hc => h c (List.mem_cons_of_mem _ hc)

theorem Memory.read_insert_self (m : Memory) (a : Nat) (v : Byte) (h : ∀ c ∈ m, c.1 ≠ a) :
    (m.insert a v).read a = v := by
  induction m with
  | nil => simp [Memory.insert, Memory.read]
  | cons d m ih =>
    simp only [Memory.insert]
    split
    · simp [Memory.read]
    · simp only [Memory.read]
      rw [if_neg (h d (by simp))]
      exact ih fun c hc => h c (List.mem_cons_of_mem _ hc)

theorem Memory.read_insert_ne (m : Memory) {a b : Nat} (v : Byte) (h : b ≠ a) : (m.insert a v).read b = m.read b := by
  induction m with
  | nil => simp [Memory.insert, Memory.read, Ne.symm h]
  | cons d m ih =>
    simp only [Memory.insert]
    split
    · simp [Memory.read, Ne.symm h]
    · simp only [Memory.read]
      split
      · rfl
      · exact ih

theorem Memory.read_erase_ne (m : Memory) {a b : Nat} (h : b ≠ a) : (m.erase a).read b = m.read b := by
  induction m with
  | nil => rfl
  | cons d m ih =>
    simp only [Memory.erase]
    split
    · next hd => simp [Memory.read, hd, Ne.symm h]
    · simp only [Memory.read]
      split
      · rfl
      · exact ih

/-- A byte written is read back. -/
theorem Memory.read_write_self {m : Memory} (h : m.wf) (a : Nat) (v : Byte) : (m.write a v).read a = v := by
  unfold Memory.write
  split
  · next hv => rw [Memory.read_of_ne (Memory.erase_ne h a), hv]
  · exact Memory.read_insert_self _ a v (Memory.erase_ne h a)

/-- A write leaves every other address alone. -/
theorem Memory.read_write_ne (m : Memory) {a b : Nat} (v : Byte) (h : b ≠ a) : (m.write a v).read b = m.read b := by
  unfold Memory.write
  split
  · exact Memory.read_erase_ne m h
  · rw [Memory.read_insert_ne _ v h, Memory.read_erase_ne m h]

end Sys2Proof.Machine
end

