-- ==== Sys2Proof/Laws/PerInstr.lean ====
section
/-! SUPPORT. The family Fields: the word of a command has the command's opcode in OPC and 0 in every reserved bit
(R141, R142). -/

namespace Sys2Proof.Laws.Fields

/-- What is said of one command. -/
@[reducible] def Statement (i : Instr) : Prop := opcOf (encode i) = i.opcode ∧ encode i &&& 0xFFC0F800#32 = 0#32

theorem nop : Statement .nop := by decide
theorem reset : Statement .reset := by decide
theorem run : Statement .run := by decide
theorem step : Statement .step := by decide
theorem reply : Statement .reply := by decide
theorem brReadBits (r : Reader) (n : BitVec 6) : Statement (.brReadBits r n) := by
  revert n; cases r <;> (unfold Statement; decide)
theorem brReadBytes (r : Reader) : Statement (.brReadBytes r) := by cases r <;> decide
theorem brSeek (r : Reader) : Statement (.brSeek r) := by cases r <;> decide
theorem brFindByte (r : Reader) : Statement (.brFindByte r) := by cases r <;> decide
theorem brTell (r : Reader) : Statement (.brTell r) := by cases r <;> decide
theorem brEof (r : Reader) : Statement (.brEof r) := by cases r <;> decide
theorem parseHeader : Statement .parseHeader := by decide
theorem parseSideinfo : Statement .parseSideinfo := by decide
theorem parseFrame : Statement .parseFrame := by decide
theorem resolve : Statement .resolve := by decide
theorem histPush : Statement .histPush := by decide
theorem huffPair : Statement .huffPair := by decide
theorem huffQuad : Statement .huffQuad := by decide
theorem huffGranule (g : Gran) (c : Chan) : Statement (.huffGranule g c) := by cases g <;> cases c <;> decide
theorem scalefac (g : Gran) (c : Chan) : Statement (.scalefac g c) := by cases g <;> cases c <;> decide
theorem maindata : Statement .maindata := by decide
theorem requant (g : Gran) (c : Chan) : Statement (.requant g c) := by cases g <;> cases c <;> decide
theorem reorder (g : Gran) (c : Chan) : Statement (.reorder g c) := by cases g <;> cases c <;> decide
theorem stereo (g : Gran) : Statement (.stereo g) := by cases g <;> decide
theorem antialias (g : Gran) (c : Chan) : Statement (.antialias g c) := by cases g <;> cases c <;> decide
theorem hybrid (g : Gran) (c : Chan) : Statement (.hybrid g c) := by cases g <;> cases c <;> decide
theorem freqinv (g : Gran) (c : Chan) : Statement (.freqinv g c) := by cases g <;> cases c <;> decide
theorem synth (g : Gran) (c : Chan) : Statement (.synth g c) := by cases g <;> cases c <;> decide
theorem reconstruct : Statement .reconstruct := by decide

end Sys2Proof.Laws.Fields
end

