-- ==== Sys2Proof/Laws/Reader.lean ====
section
/-! SUPPORT. What the reader's primitives can do, said once for each. -/

namespace Sys2Proof.Machine

/-- Below IN_MAX the bytes of IN are the memory's. -/
theorem inByte_of_lt {s : State} {a : Nat} (h : a < s.cfg.inMax) : inByte s a = s.mem.read a := if_pos h

theorem bitAt_lt_two (src : Src) (q : Nat) : bitAt src q < 2 := Nat.mod_lt _ (by decide)

@[simp] theorem bitsAt_zero (src : Src) (p : Nat) : bitsAt src p 0 = 0 := rfl

theorem bitsAt_succ (src : Src) (p n : Nat) : bitsAt src p (n + 1) = 2 * bitsAt src p n + bitAt src (p + n) := rfl

theorem bitsAt_lt (src : Src) (p n : Nat) : bitsAt src p n < 2 ^ n := by
  induction n with
  | zero => simp
  | succ n ih =>
    have := bitAt_lt_two src (p + n)
    rw [bitsAt_succ, Nat.pow_succ]
    omega

/-- A string of bits cut in two (R108). -/
theorem bitsAt_add (src : Src) (p a b : Nat) :
    bitsAt src p (a + b) = bitsAt src p a * 2 ^ b + bitsAt src (p + a) b := by
  induction b with
  | zero => simp
  | succ b ih =>
    rw [← Nat.add_assoc, bitsAt_succ, ih, bitsAt_succ, Nat.pow_succ, Nat.add_assoc p a b]
    ring

/-- Bit k from the left of the `n` bits at `p` (R105). -/
theorem bitsAt_testBit (src : Src) (p n k : Nat) (h : k < n) :
    (bitsAt src p n).testBit (n - 1 - k) = decide (bitAt src (p + k) = 1) := by
  induction n with
  | zero => omega
  | succ n ih =>
    have hb := bitAt_lt_two src (p + n)
    rw [bitsAt_succ]
    by_cases hk : k = n
    · subst hk
      rw [show k + 1 - 1 - k = 0 by omega, Nat.testBit_zero]
      congr 1
      simp only [eq_iff_iff]
      omega
    · rw [show n + 1 - 1 - k = (n - 1 - k) + 1 by omega, Nat.testBit_succ, ← ih (by omega)]
      congr 1
      omega

/-- A read of at least the bits that are there (R251). -/
theorem bitRead_ok {src : Src} {n p : Nat} (h : n = 0 ∨ p + n ≤ src.len) :
    bitRead src n p = .ok (bitsAt src p n) (p + n) := by
  unfold bitRead
  split
  · next h0 => simp [h0]
  · rw [if_neg (by omega)]

/-- A read of more bits than are there (R251, R253). -/
theorem bitRead_short {src : Src} {n p : Nat} (h0 : n ≠ 0) (h : src.len < p + n) :
    bitRead src n p = .err .unexpectedEnd p := by
  unfold bitRead
  rw [if_neg h0, if_pos h]

/-- All a BitRead can do. -/
theorem bitRead_cases (src : Src) (n p : Nat) :
    ((n = 0 ∨ p + n ≤ src.len) ∧ bitRead src n p = .ok (bitsAt src p n) (p + n)) ∨
    (n ≠ 0 ∧ src.len < p + n ∧ bitRead src n p = .err .unexpectedEnd p) := by
  by_cases h : n = 0 ∨ p + n ≤ src.len
  · exact .inl ⟨h, bitRead_ok h⟩
  · exact .inr ⟨by omega, by omega, bitRead_short (by omega) (by omega)⟩

/-- A field of `w` bits that are there. -/
theorem readField_ok {src : Src} {w p : Nat} (h : p + w ≤ src.len) :
    readField src w p = .ok (BitVec.ofNat w (bitsAt src p w)) (p + w) := by
  simp [readField, Act.bind, bitRead_ok (Or.inr h), Act.pure]

/-- A flag that is there. -/
theorem readFlag_ok {src : Src} {p : Nat} (h : p + 1 ≤ src.len) :
    readFlag src p = .ok (decide (bitAt src p = 1)) (p + 1) := by
  simp [readFlag, Act.bind, bitRead_ok (Or.inr h), Act.pure, bitsAt_succ]

@[simp] theorem bytesAt_length (src : Src) (a n : Nat) : (bytesAt src a n).length = n := by simp [bytesAt]

/-- An aligned read of bytes that are there, or of none (R254, R255). -/
theorem byteRead_ok {src : Src} {n p : Nat} (ha : p % 8 = 0) (h : n = 0 ∨ p + 8 * n ≤ src.len) :
    byteRead src n p = .ok (bytesAt src (p / 8) n) (p + 8 * n) := by
  unfold byteRead
  rw [if_neg (by omega)]
  split
  · next h0 => subst h0; rfl
  · rw [if_neg (by omega)]

/-- All a ByteRead can do (R254). -/
theorem byteRead_cases (src : Src) (n p : Nat) :
    (p % 8 ≠ 0 ∧ byteRead src n p = .err .misalignedRead p) ∨
    (p % 8 = 0 ∧ n ≠ 0 ∧ src.len < p + 8 * n ∧ byteRead src n p = .err .unexpectedEnd (max p src.len)) ∨
    (p % 8 = 0 ∧ (n = 0 ∨ p + 8 * n ≤ src.len) ∧
      byteRead src n p = .ok (bytesAt src (p / 8) n) (p + 8 * n)) := by
  by_cases ha : p % 8 = 0
  · by_cases h : n = 0 ∨ p + 8 * n ≤ src.len
    · exact .inr (.inr ⟨ha, h, byteRead_ok ha h⟩)
    · refine .inr (.inl ⟨ha, by omega, by omega, ?_⟩)
      unfold byteRead
      rw [if_neg (by omega), if_neg (by omega), if_pos (by omega)]
  · exact .inl ⟨ha, if_pos ha⟩

/-- The byte found is the first of its value. -/
theorem findFrom_eq_some {src : Src} {v : Byte} {n j k : Nat} :
    findFrom src v n j = some k ↔
      j ≤ k ∧ k < j + n ∧ src.byte k = v ∧ ∀ i, j ≤ i → i < k → src.byte i ≠ v := by
  induction n generalizing j with
  | zero =>
    constructor
    · intro h; simp [findFrom] at h
    · rintro ⟨h1, h2, -⟩; omega
  | succ n ih =>
    unfold findFrom
    split
    · next hj =>
      constructor
      · intro h
        obtain rfl : j = k := by simpa using h
        exact ⟨le_refl _, by omega, hj, fun i h1 h2 => by omega⟩
      · rintro ⟨h1, -, -, h4⟩
        by_cases hjk : j = k
        · rw [hjk]
        · exact absurd hj (h4 j (le_refl _) (by omega))
    · next hj =>
      rw [ih]
      constructor
      · rintro ⟨h1, h2, h3, h4⟩
        refine ⟨by omega, by omega, h3, fun i hi1 hi2 => ?_⟩
        by_cases hij : i = j
        · rw [hij]; exact hj
        · exact h4 i (by omega) hi2
      · rintro ⟨h1, h2, h3, h4⟩
        have hjk : j ≠ k := fun h => hj (h ▸ h3)
        exact ⟨by omega, by omega, h3, fun i hi1 hi2 => h4 i (by omega) hi2⟩

/-- Nothing is found exactly when no byte has the value. -/
theorem findFrom_eq_none {src : Src} {v : Byte} {n j : Nat} :
    findFrom src v n j = none ↔ ∀ i, j ≤ i → i < j + n → src.byte i ≠ v := by
  induction n generalizing j with
  | zero =>
    constructor
    · intro _ i h1 h2; omega
    · intro _; rfl
  | succ n ih =>
    unfold findFrom
    split
    · next hj =>
      constructor
      · intro h; simp at h
      · intro h; exact absurd hj (h j (le_refl _) (by omega))
    · next hj =>
      rw [ih]
      constructor
      · intro h i h1 h2
        by_cases hij : i = j
        · rw [hij]; exact hj
        · exact h i (by omega) (by omega)
      · intro h i h1 h2; exact h i (by omega) (by omega)

/-- All a FindByte can do (R258). -/
theorem findByte_cases (src : Src) (v : Byte) (p : Nat) :
    (∃ j, findFrom src v (src.len / 8 - (p + 7) / 8) ((p + 7) / 8) = some j ∧ findByte src v p = .ok (some j) (8 * j)) ∨
    (findFrom src v (src.len / 8 - (p + 7) / 8) ((p + 7) / 8) = none ∧ findByte src v p = .ok none p) := by
  unfold findByte
  cases h : findFrom src v (src.len / 8 - (p + 7) / 8) ((p + 7) / 8) with
  | some j => exact .inl ⟨j, rfl, by simp only [h]⟩
  | none => exact .inr ⟨rfl, by simp only [h]⟩

end Sys2Proof.Machine
end

