-- ==== Sys2Proof/Laws/State.lean ====
section
/-! SUPPORT. One lemma for each field of State and each shared update: what the update leaves alone, and what it writes.
All are true by unfolding, so no later proof unfolds a record update. -/

namespace Sys2Proof.Machine

/-! ## record -/

@[simp] theorem record_arg (e : Err) (c : ErrClass) (b : BitVec 8) (s : State) : (record e c b s).arg = s.arg := rfl
@[simp] theorem record_result0 (e : Err) (c : ErrClass) (b : BitVec 8) (s : State) : (record e c b s).result0 = s.result0 := rfl
@[simp] theorem record_result1 (e : Err) (c : ErrClass) (b : BitVec 8) (s : State) : (record e c b s).result1 = s.result1 := rfl
@[simp] theorem record_err (e : Err) (c : ErrClass) (b : BitVec 8) (s : State) : (record e c b s).err = errWord b c e := rfl
@[simp] theorem record_bandMask (e : Err) (c : ErrClass) (b : BitVec 8) (s : State) : (record e c b s).bandMask = s.bandMask := rfl
@[simp] theorem record_frameCnt (e : Err) (c : ErrClass) (b : BitVec 8) (s : State) : (record e c b s).frameCnt = s.frameCnt := rfl
@[simp] theorem record_inLen (e : Err) (c : ErrClass) (b : BitVec 8) (s : State) : (record e c b s).inLen = s.inLen := rfl
@[simp] theorem record_irqStatus (e : Err) (c : ErrClass) (b : BitVec 8) (s : State) : (record e c b s).irqStatus = s.irqStatus ||| irqErr := rfl
@[simp] theorem record_irqEnable (e : Err) (c : ErrClass) (b : BitVec 8) (s : State) : (record e c b s).irqEnable = s.irqEnable := rfl
@[simp] theorem record_ckptInfo (e : Err) (c : ErrClass) (b : BitVec 8) (s : State) : (record e c b s).ckptInfo = s.ckptInfo := rfl
@[simp] theorem record_mode (e : Err) (c : ErrClass) (b : BitVec 8) (s : State) : (record e c b s).mode = s.mode := rfl
@[simp] theorem record_found (e : Err) (c : ErrClass) (b : BitVec 8) (s : State) : (record e c b s).found = s.found := rfl
@[simp] theorem record_stopped (e : Err) (c : ErrClass) (b : BitVec 8) (s : State) : (record e c b s).stopped = s.stopped := rfl
@[simp] theorem record_frmValid (e : Err) (c : ErrClass) (b : BitVec 8) (s : State) : (record e c b s).frmValid = s.frmValid := rfl
@[simp] theorem record_mdValid (e : Err) (c : ErrClass) (b : BitVec 8) (s : State) : (record e c b s).mdValid = s.mdValid := rfl
@[simp] theorem record_mem (e : Err) (c : ErrClass) (b : BitVec 8) (s : State) : (record e c b s).mem = s.mem := rfl
@[simp] theorem record_inPos (e : Err) (c : ErrClass) (b : BitVec 8) (s : State) : (record e c b s).inPos = s.inPos := rfl
@[simp] theorem record_mdPos (e : Err) (c : ErrClass) (b : BitVec 8) (s : State) : (record e c b s).mdPos = s.mdPos := rfl
@[simp] theorem record_mdbuf (e : Err) (c : ErrClass) (b : BitVec 8) (s : State) : (record e c b s).mdbuf = s.mdbuf := rfl
@[simp] theorem record_hist (e : Err) (c : ErrClass) (b : BitVec 8) (s : State) : (record e c b s).hist = s.hist := rfl
@[simp] theorem record_mdRef (e : Err) (c : ErrClass) (b : BitVec 8) (s : State) : (record e c b s).mdRef = s.mdRef := rfl
@[simp] theorem record_frm (e : Err) (c : ErrClass) (b : BitVec 8) (s : State) : (record e c b s).frm = s.frm := rfl
@[simp] theorem record_md (e : Err) (c : ErrClass) (b : BitVec 8) (s : State) : (record e c b s).md = s.md := rfl
@[simp] theorem record_mdst (e : Err) (c : ErrClass) (b : BitVec 8) (s : State) : (record e c b s).mdst = s.mdst := rfl
@[simp] theorem record_xr (e : Err) (c : ErrClass) (b : BitVec 8) (s : State) : (record e c b s).xr = s.xr := rfl
@[simp] theorem record_tag (e : Err) (c : ErrClass) (b : BitVec 8) (s : State) : (record e c b s).tag = s.tag := rfl
@[simp] theorem record_ovl (e : Err) (c : ErrClass) (b : BitVec 8) (s : State) : (record e c b s).ovl = s.ovl := rfl
@[simp] theorem record_vh (e : Err) (c : ErrClass) (b : BitVec 8) (s : State) : (record e c b s).vh = s.vh := rfl
@[simp] theorem record_outFrames (e : Err) (c : ErrClass) (b : BitVec 8) (s : State) : (record e c b s).outFrames = s.outFrames := rfl
@[simp] theorem record_outMaindata (e : Err) (c : ErrClass) (b : BitVec 8) (s : State) : (record e c b s).outMaindata = s.outMaindata := rfl
@[simp] theorem record_outPcm (e : Err) (c : ErrClass) (b : BitVec 8) (s : State) : (record e c b s).outPcm = s.outPcm := rfl
@[simp] theorem record_outByteref (e : Err) (c : ErrClass) (b : BitVec 8) (s : State) : (record e c b s).outByteref = s.outByteref := rfl
@[simp] theorem record_outInter (e : Err) (c : ErrClass) (b : BitVec 8) (s : State) : (record e c b s).outInter = s.outInter := rfl
@[simp] theorem record_outDiag (e : Err) (c : ErrClass) (b : BitVec 8) (s : State) : (record e c b s).outDiag = s.outDiag := rfl
@[simp] theorem record_outBytes (e : Err) (c : ErrClass) (b : BitVec 8) (s : State) : (record e c b s).outBytes = s.outBytes := rfl
@[simp] theorem record_cfg (e : Err) (c : ErrClass) (b : BitVec 8) (s : State) : (record e c b s).cfg = s.cfg := rfl
@[simp] theorem record_moves (e : Err) (c : ErrClass) (b : BitVec 8) (s : State) : (record e c b s).moves = s.moves := rfl
@[simp] theorem record_readLog (e : Err) (c : ErrClass) (b : BitVec 8) (s : State) : (record e c b s).readLog = s.readLog := rfl

/-! ## setResults -/

@[simp] theorem setResults_arg (v w : Word) (s : State) : (setResults v w s).arg = s.arg := rfl
@[simp] theorem setResults_result0 (v w : Word) (s : State) : (setResults v w s).result0 = v := rfl
@[simp] theorem setResults_result1 (v w : Word) (s : State) : (setResults v w s).result1 = w := rfl
@[simp] theorem setResults_err (v w : Word) (s : State) : (setResults v w s).err = s.err := rfl
@[simp] theorem setResults_bandMask (v w : Word) (s : State) : (setResults v w s).bandMask = s.bandMask := rfl
@[simp] theorem setResults_frameCnt (v w : Word) (s : State) : (setResults v w s).frameCnt = s.frameCnt := rfl
@[simp] theorem setResults_inLen (v w : Word) (s : State) : (setResults v w s).inLen = s.inLen := rfl
@[simp] theorem setResults_irqStatus (v w : Word) (s : State) : (setResults v w s).irqStatus = s.irqStatus := rfl
@[simp] theorem setResults_irqEnable (v w : Word) (s : State) : (setResults v w s).irqEnable = s.irqEnable := rfl
@[simp] theorem setResults_ckptInfo (v w : Word) (s : State) : (setResults v w s).ckptInfo = s.ckptInfo := rfl
@[simp] theorem setResults_mode (v w : Word) (s : State) : (setResults v w s).mode = s.mode := rfl
@[simp] theorem setResults_found (v w : Word) (s : State) : (setResults v w s).found = s.found := rfl
@[simp] theorem setResults_stopped (v w : Word) (s : State) : (setResults v w s).stopped = s.stopped := rfl
@[simp] theorem setResults_frmValid (v w : Word) (s : State) : (setResults v w s).frmValid = s.frmValid := rfl
@[simp] theorem setResults_mdValid (v w : Word) (s : State) : (setResults v w s).mdValid = s.mdValid := rfl
@[simp] theorem setResults_mem (v w : Word) (s : State) : (setResults v w s).mem = s.mem := rfl
@[simp] theorem setResults_inPos (v w : Word) (s : State) : (setResults v w s).inPos = s.inPos := rfl
@[simp] theorem setResults_mdPos (v w : Word) (s : State) : (setResults v w s).mdPos = s.mdPos := rfl
@[simp] theorem setResults_mdbuf (v w : Word) (s : State) : (setResults v w s).mdbuf = s.mdbuf := rfl
@[simp] theorem setResults_hist (v w : Word) (s : State) : (setResults v w s).hist = s.hist := rfl
@[simp] theorem setResults_mdRef (v w : Word) (s : State) : (setResults v w s).mdRef = s.mdRef := rfl
@[simp] theorem setResults_frm (v w : Word) (s : State) : (setResults v w s).frm = s.frm := rfl
@[simp] theorem setResults_md (v w : Word) (s : State) : (setResults v w s).md = s.md := rfl
@[simp] theorem setResults_mdst (v w : Word) (s : State) : (setResults v w s).mdst = s.mdst := rfl
@[simp] theorem setResults_xr (v w : Word) (s : State) : (setResults v w s).xr = s.xr := rfl
@[simp] theorem setResults_tag (v w : Word) (s : State) : (setResults v w s).tag = s.tag := rfl
@[simp] theorem setResults_ovl (v w : Word) (s : State) : (setResults v w s).ovl = s.ovl := rfl
@[simp] theorem setResults_vh (v w : Word) (s : State) : (setResults v w s).vh = s.vh := rfl
@[simp] theorem setResults_outFrames (v w : Word) (s : State) : (setResults v w s).outFrames = s.outFrames := rfl
@[simp] theorem setResults_outMaindata (v w : Word) (s : State) : (setResults v w s).outMaindata = s.outMaindata := rfl
@[simp] theorem setResults_outPcm (v w : Word) (s : State) : (setResults v w s).outPcm = s.outPcm := rfl
@[simp] theorem setResults_outByteref (v w : Word) (s : State) : (setResults v w s).outByteref = s.outByteref := rfl
@[simp] theorem setResults_outInter (v w : Word) (s : State) : (setResults v w s).outInter = s.outInter := rfl
@[simp] theorem setResults_outDiag (v w : Word) (s : State) : (setResults v w s).outDiag = s.outDiag := rfl
@[simp] theorem setResults_outBytes (v w : Word) (s : State) : (setResults v w s).outBytes = s.outBytes := rfl
@[simp] theorem setResults_cfg (v w : Word) (s : State) : (setResults v w s).cfg = s.cfg := rfl
@[simp] theorem setResults_moves (v w : Word) (s : State) : (setResults v w s).moves = s.moves := rfl
@[simp] theorem setResults_readLog (v w : Word) (s : State) : (setResults v w s).readLog = s.readLog := rfl

/-! ## setResult0 -/

@[simp] theorem setResult0_arg (v : Word) (s : State) : (setResult0 v s).arg = s.arg := rfl
@[simp] theorem setResult0_result0 (v : Word) (s : State) : (setResult0 v s).result0 = v := rfl
@[simp] theorem setResult0_result1 (v : Word) (s : State) : (setResult0 v s).result1 = s.result1 := rfl
@[simp] theorem setResult0_err (v : Word) (s : State) : (setResult0 v s).err = s.err := rfl
@[simp] theorem setResult0_bandMask (v : Word) (s : State) : (setResult0 v s).bandMask = s.bandMask := rfl
@[simp] theorem setResult0_frameCnt (v : Word) (s : State) : (setResult0 v s).frameCnt = s.frameCnt := rfl
@[simp] theorem setResult0_inLen (v : Word) (s : State) : (setResult0 v s).inLen = s.inLen := rfl
@[simp] theorem setResult0_irqStatus (v : Word) (s : State) : (setResult0 v s).irqStatus = s.irqStatus := rfl
@[simp] theorem setResult0_irqEnable (v : Word) (s : State) : (setResult0 v s).irqEnable = s.irqEnable := rfl
@[simp] theorem setResult0_ckptInfo (v : Word) (s : State) : (setResult0 v s).ckptInfo = s.ckptInfo := rfl
@[simp] theorem setResult0_mode (v : Word) (s : State) : (setResult0 v s).mode = s.mode := rfl
@[simp] theorem setResult0_found (v : Word) (s : State) : (setResult0 v s).found = s.found := rfl
@[simp] theorem setResult0_stopped (v : Word) (s : State) : (setResult0 v s).stopped = s.stopped := rfl
@[simp] theorem setResult0_frmValid (v : Word) (s : State) : (setResult0 v s).frmValid = s.frmValid := rfl
@[simp] theorem setResult0_mdValid (v : Word) (s : State) : (setResult0 v s).mdValid = s.mdValid := rfl
@[simp] theorem setResult0_mem (v : Word) (s : State) : (setResult0 v s).mem = s.mem := rfl
@[simp] theorem setResult0_inPos (v : Word) (s : State) : (setResult0 v s).inPos = s.inPos := rfl
@[simp] theorem setResult0_mdPos (v : Word) (s : State) : (setResult0 v s).mdPos = s.mdPos := rfl
@[simp] theorem setResult0_mdbuf (v : Word) (s : State) : (setResult0 v s).mdbuf = s.mdbuf := rfl
@[simp] theorem setResult0_hist (v : Word) (s : State) : (setResult0 v s).hist = s.hist := rfl
@[simp] theorem setResult0_mdRef (v : Word) (s : State) : (setResult0 v s).mdRef = s.mdRef := rfl
@[simp] theorem setResult0_frm (v : Word) (s : State) : (setResult0 v s).frm = s.frm := rfl
@[simp] theorem setResult0_md (v : Word) (s : State) : (setResult0 v s).md = s.md := rfl
@[simp] theorem setResult0_mdst (v : Word) (s : State) : (setResult0 v s).mdst = s.mdst := rfl
@[simp] theorem setResult0_xr (v : Word) (s : State) : (setResult0 v s).xr = s.xr := rfl
@[simp] theorem setResult0_tag (v : Word) (s : State) : (setResult0 v s).tag = s.tag := rfl
@[simp] theorem setResult0_ovl (v : Word) (s : State) : (setResult0 v s).ovl = s.ovl := rfl
@[simp] theorem setResult0_vh (v : Word) (s : State) : (setResult0 v s).vh = s.vh := rfl
@[simp] theorem setResult0_outFrames (v : Word) (s : State) : (setResult0 v s).outFrames = s.outFrames := rfl
@[simp] theorem setResult0_outMaindata (v : Word) (s : State) : (setResult0 v s).outMaindata = s.outMaindata := rfl
@[simp] theorem setResult0_outPcm (v : Word) (s : State) : (setResult0 v s).outPcm = s.outPcm := rfl
@[simp] theorem setResult0_outByteref (v : Word) (s : State) : (setResult0 v s).outByteref = s.outByteref := rfl
@[simp] theorem setResult0_outInter (v : Word) (s : State) : (setResult0 v s).outInter = s.outInter := rfl
@[simp] theorem setResult0_outDiag (v : Word) (s : State) : (setResult0 v s).outDiag = s.outDiag := rfl
@[simp] theorem setResult0_outBytes (v : Word) (s : State) : (setResult0 v s).outBytes = s.outBytes := rfl
@[simp] theorem setResult0_cfg (v : Word) (s : State) : (setResult0 v s).cfg = s.cfg := rfl
@[simp] theorem setResult0_moves (v : Word) (s : State) : (setResult0 v s).moves = s.moves := rfl
@[simp] theorem setResult0_readLog (v : Word) (s : State) : (setResult0 v s).readLog = s.readLog := rfl

/-! ## setMdst -/

@[simp] theorem setMdst_arg (g : Gran) (c : Chan) (v : MdStage) (s : State) : (setMdst g c v s).arg = s.arg := rfl
@[simp] theorem setMdst_result0 (g : Gran) (c : Chan) (v : MdStage) (s : State) : (setMdst g c v s).result0 = s.result0 := rfl
@[simp] theorem setMdst_result1 (g : Gran) (c : Chan) (v : MdStage) (s : State) : (setMdst g c v s).result1 = s.result1 := rfl
@[simp] theorem setMdst_err (g : Gran) (c : Chan) (v : MdStage) (s : State) : (setMdst g c v s).err = s.err := rfl
@[simp] theorem setMdst_bandMask (g : Gran) (c : Chan) (v : MdStage) (s : State) : (setMdst g c v s).bandMask = s.bandMask := rfl
@[simp] theorem setMdst_frameCnt (g : Gran) (c : Chan) (v : MdStage) (s : State) : (setMdst g c v s).frameCnt = s.frameCnt := rfl
@[simp] theorem setMdst_inLen (g : Gran) (c : Chan) (v : MdStage) (s : State) : (setMdst g c v s).inLen = s.inLen := rfl
@[simp] theorem setMdst_irqStatus (g : Gran) (c : Chan) (v : MdStage) (s : State) : (setMdst g c v s).irqStatus = s.irqStatus := rfl
@[simp] theorem setMdst_irqEnable (g : Gran) (c : Chan) (v : MdStage) (s : State) : (setMdst g c v s).irqEnable = s.irqEnable := rfl
@[simp] theorem setMdst_ckptInfo (g : Gran) (c : Chan) (v : MdStage) (s : State) : (setMdst g c v s).ckptInfo = s.ckptInfo := rfl
@[simp] theorem setMdst_mode (g : Gran) (c : Chan) (v : MdStage) (s : State) : (setMdst g c v s).mode = s.mode := rfl
@[simp] theorem setMdst_found (g : Gran) (c : Chan) (v : MdStage) (s : State) : (setMdst g c v s).found = s.found := rfl
@[simp] theorem setMdst_stopped (g : Gran) (c : Chan) (v : MdStage) (s : State) : (setMdst g c v s).stopped = s.stopped := rfl
@[simp] theorem setMdst_frmValid (g : Gran) (c : Chan) (v : MdStage) (s : State) : (setMdst g c v s).frmValid = s.frmValid := rfl
@[simp] theorem setMdst_mdValid (g : Gran) (c : Chan) (v : MdStage) (s : State) : (setMdst g c v s).mdValid = s.mdValid := rfl
@[simp] theorem setMdst_mem (g : Gran) (c : Chan) (v : MdStage) (s : State) : (setMdst g c v s).mem = s.mem := rfl
@[simp] theorem setMdst_inPos (g : Gran) (c : Chan) (v : MdStage) (s : State) : (setMdst g c v s).inPos = s.inPos := rfl
@[simp] theorem setMdst_mdPos (g : Gran) (c : Chan) (v : MdStage) (s : State) : (setMdst g c v s).mdPos = s.mdPos := rfl
@[simp] theorem setMdst_mdbuf (g : Gran) (c : Chan) (v : MdStage) (s : State) : (setMdst g c v s).mdbuf = s.mdbuf := rfl
@[simp] theorem setMdst_hist (g : Gran) (c : Chan) (v : MdStage) (s : State) : (setMdst g c v s).hist = s.hist := rfl
@[simp] theorem setMdst_mdRef (g : Gran) (c : Chan) (v : MdStage) (s : State) : (setMdst g c v s).mdRef = s.mdRef := rfl
@[simp] theorem setMdst_frm (g : Gran) (c : Chan) (v : MdStage) (s : State) : (setMdst g c v s).frm = s.frm := rfl
@[simp] theorem setMdst_md (g : Gran) (c : Chan) (v : MdStage) (s : State) : (setMdst g c v s).md = s.md := rfl
@[simp] theorem setMdst_mdst (g : Gran) (c : Chan) (v : MdStage) (s : State) : (setMdst g c v s).mdst = s.mdst.set g c v := rfl
@[simp] theorem setMdst_xr (g : Gran) (c : Chan) (v : MdStage) (s : State) : (setMdst g c v s).xr = s.xr := rfl
@[simp] theorem setMdst_tag (g : Gran) (c : Chan) (v : MdStage) (s : State) : (setMdst g c v s).tag = s.tag := rfl
@[simp] theorem setMdst_ovl (g : Gran) (c : Chan) (v : MdStage) (s : State) : (setMdst g c v s).ovl = s.ovl := rfl
@[simp] theorem setMdst_vh (g : Gran) (c : Chan) (v : MdStage) (s : State) : (setMdst g c v s).vh = s.vh := rfl
@[simp] theorem setMdst_outFrames (g : Gran) (c : Chan) (v : MdStage) (s : State) : (setMdst g c v s).outFrames = s.outFrames := rfl
@[simp] theorem setMdst_outMaindata (g : Gran) (c : Chan) (v : MdStage) (s : State) : (setMdst g c v s).outMaindata = s.outMaindata := rfl
@[simp] theorem setMdst_outPcm (g : Gran) (c : Chan) (v : MdStage) (s : State) : (setMdst g c v s).outPcm = s.outPcm := rfl
@[simp] theorem setMdst_outByteref (g : Gran) (c : Chan) (v : MdStage) (s : State) : (setMdst g c v s).outByteref = s.outByteref := rfl
@[simp] theorem setMdst_outInter (g : Gran) (c : Chan) (v : MdStage) (s : State) : (setMdst g c v s).outInter = s.outInter := rfl
@[simp] theorem setMdst_outDiag (g : Gran) (c : Chan) (v : MdStage) (s : State) : (setMdst g c v s).outDiag = s.outDiag := rfl
@[simp] theorem setMdst_outBytes (g : Gran) (c : Chan) (v : MdStage) (s : State) : (setMdst g c v s).outBytes = s.outBytes := rfl
@[simp] theorem setMdst_cfg (g : Gran) (c : Chan) (v : MdStage) (s : State) : (setMdst g c v s).cfg = s.cfg := rfl
@[simp] theorem setMdst_moves (g : Gran) (c : Chan) (v : MdStage) (s : State) : (setMdst g c v s).moves = s.moves := rfl
@[simp] theorem setMdst_readLog (g : Gran) (c : Chan) (v : MdStage) (s : State) : (setMdst g c v s).readLog = s.readLog := rfl

/-! ## clearStages -/

@[simp] theorem clearStages_arg (s : State) : (clearStages s).arg = s.arg := rfl
@[simp] theorem clearStages_result0 (s : State) : (clearStages s).result0 = s.result0 := rfl
@[simp] theorem clearStages_result1 (s : State) : (clearStages s).result1 = s.result1 := rfl
@[simp] theorem clearStages_err (s : State) : (clearStages s).err = s.err := rfl
@[simp] theorem clearStages_bandMask (s : State) : (clearStages s).bandMask = s.bandMask := rfl
@[simp] theorem clearStages_frameCnt (s : State) : (clearStages s).frameCnt = s.frameCnt := rfl
@[simp] theorem clearStages_inLen (s : State) : (clearStages s).inLen = s.inLen := rfl
@[simp] theorem clearStages_irqStatus (s : State) : (clearStages s).irqStatus = s.irqStatus := rfl
@[simp] theorem clearStages_irqEnable (s : State) : (clearStages s).irqEnable = s.irqEnable := rfl
@[simp] theorem clearStages_ckptInfo (s : State) : (clearStages s).ckptInfo = s.ckptInfo := rfl
@[simp] theorem clearStages_mode (s : State) : (clearStages s).mode = s.mode := rfl
@[simp] theorem clearStages_found (s : State) : (clearStages s).found = s.found := rfl
@[simp] theorem clearStages_stopped (s : State) : (clearStages s).stopped = s.stopped := rfl
@[simp] theorem clearStages_frmValid (s : State) : (clearStages s).frmValid = s.frmValid := rfl
@[simp] theorem clearStages_mdValid (s : State) : (clearStages s).mdValid = false := rfl
@[simp] theorem clearStages_mem (s : State) : (clearStages s).mem = s.mem := rfl
@[simp] theorem clearStages_inPos (s : State) : (clearStages s).inPos = s.inPos := rfl
@[simp] theorem clearStages_mdPos (s : State) : (clearStages s).mdPos = s.mdPos := rfl
@[simp] theorem clearStages_mdbuf (s : State) : (clearStages s).mdbuf = s.mdbuf := rfl
@[simp] theorem clearStages_hist (s : State) : (clearStages s).hist = s.hist := rfl
@[simp] theorem clearStages_mdRef (s : State) : (clearStages s).mdRef = s.mdRef := rfl
@[simp] theorem clearStages_frm (s : State) : (clearStages s).frm = s.frm := rfl
@[simp] theorem clearStages_md (s : State) : (clearStages s).md = s.md := rfl
@[simp] theorem clearStages_mdst (s : State) : (clearStages s).mdst = .const .none := rfl
@[simp] theorem clearStages_xr (s : State) : (clearStages s).xr = s.xr := rfl
@[simp] theorem clearStages_tag (s : State) : (clearStages s).tag = .const .none := rfl
@[simp] theorem clearStages_ovl (s : State) : (clearStages s).ovl = s.ovl := rfl
@[simp] theorem clearStages_vh (s : State) : (clearStages s).vh = s.vh := rfl
@[simp] theorem clearStages_outFrames (s : State) : (clearStages s).outFrames = s.outFrames := rfl
@[simp] theorem clearStages_outMaindata (s : State) : (clearStages s).outMaindata = s.outMaindata := rfl
@[simp] theorem clearStages_outPcm (s : State) : (clearStages s).outPcm = s.outPcm := rfl
@[simp] theorem clearStages_outByteref (s : State) : (clearStages s).outByteref = s.outByteref := rfl
@[simp] theorem clearStages_outInter (s : State) : (clearStages s).outInter = s.outInter := rfl
@[simp] theorem clearStages_outDiag (s : State) : (clearStages s).outDiag = s.outDiag := rfl
@[simp] theorem clearStages_outBytes (s : State) : (clearStages s).outBytes = s.outBytes := rfl
@[simp] theorem clearStages_cfg (s : State) : (clearStages s).cfg = s.cfg := rfl
@[simp] theorem clearStages_moves (s : State) : (clearStages s).moves = s.moves := rfl
@[simp] theorem clearStages_readLog (s : State) : (clearStages s).readLog = s.readLog := rfl

/-! ## setPos_inp -/

@[simp] theorem setPos_inp_arg (s : State) (p : Nat) : (setPos s .inp p).arg = s.arg := rfl
@[simp] theorem setPos_inp_result0 (s : State) (p : Nat) : (setPos s .inp p).result0 = s.result0 := rfl
@[simp] theorem setPos_inp_result1 (s : State) (p : Nat) : (setPos s .inp p).result1 = s.result1 := rfl
@[simp] theorem setPos_inp_err (s : State) (p : Nat) : (setPos s .inp p).err = s.err := rfl
@[simp] theorem setPos_inp_bandMask (s : State) (p : Nat) : (setPos s .inp p).bandMask = s.bandMask := rfl
@[simp] theorem setPos_inp_frameCnt (s : State) (p : Nat) : (setPos s .inp p).frameCnt = s.frameCnt := rfl
@[simp] theorem setPos_inp_inLen (s : State) (p : Nat) : (setPos s .inp p).inLen = s.inLen := rfl
@[simp] theorem setPos_inp_irqStatus (s : State) (p : Nat) : (setPos s .inp p).irqStatus = s.irqStatus := rfl
@[simp] theorem setPos_inp_irqEnable (s : State) (p : Nat) : (setPos s .inp p).irqEnable = s.irqEnable := rfl
@[simp] theorem setPos_inp_ckptInfo (s : State) (p : Nat) : (setPos s .inp p).ckptInfo = s.ckptInfo := rfl
@[simp] theorem setPos_inp_mode (s : State) (p : Nat) : (setPos s .inp p).mode = s.mode := rfl
@[simp] theorem setPos_inp_found (s : State) (p : Nat) : (setPos s .inp p).found = s.found := rfl
@[simp] theorem setPos_inp_stopped (s : State) (p : Nat) : (setPos s .inp p).stopped = s.stopped := rfl
@[simp] theorem setPos_inp_frmValid (s : State) (p : Nat) : (setPos s .inp p).frmValid = s.frmValid := rfl
@[simp] theorem setPos_inp_mdValid (s : State) (p : Nat) : (setPos s .inp p).mdValid = s.mdValid := rfl
@[simp] theorem setPos_inp_mem (s : State) (p : Nat) : (setPos s .inp p).mem = s.mem := rfl
@[simp] theorem setPos_inp_inPos (s : State) (p : Nat) : (setPos s .inp p).inPos = p := rfl
@[simp] theorem setPos_inp_mdPos (s : State) (p : Nat) : (setPos s .inp p).mdPos = s.mdPos := rfl
@[simp] theorem setPos_inp_mdbuf (s : State) (p : Nat) : (setPos s .inp p).mdbuf = s.mdbuf := rfl
@[simp] theorem setPos_inp_hist (s : State) (p : Nat) : (setPos s .inp p).hist = s.hist := rfl
@[simp] theorem setPos_inp_mdRef (s : State) (p : Nat) : (setPos s .inp p).mdRef = s.mdRef := rfl
@[simp] theorem setPos_inp_frm (s : State) (p : Nat) : (setPos s .inp p).frm = s.frm := rfl
@[simp] theorem setPos_inp_md (s : State) (p : Nat) : (setPos s .inp p).md = s.md := rfl
@[simp] theorem setPos_inp_mdst (s : State) (p : Nat) : (setPos s .inp p).mdst = s.mdst := rfl
@[simp] theorem setPos_inp_xr (s : State) (p : Nat) : (setPos s .inp p).xr = s.xr := rfl
@[simp] theorem setPos_inp_tag (s : State) (p : Nat) : (setPos s .inp p).tag = s.tag := rfl
@[simp] theorem setPos_inp_ovl (s : State) (p : Nat) : (setPos s .inp p).ovl = s.ovl := rfl
@[simp] theorem setPos_inp_vh (s : State) (p : Nat) : (setPos s .inp p).vh = s.vh := rfl
@[simp] theorem setPos_inp_outFrames (s : State) (p : Nat) : (setPos s .inp p).outFrames = s.outFrames := rfl
@[simp] theorem setPos_inp_outMaindata (s : State) (p : Nat) : (setPos s .inp p).outMaindata = s.outMaindata := rfl
@[simp] theorem setPos_inp_outPcm (s : State) (p : Nat) : (setPos s .inp p).outPcm = s.outPcm := rfl
@[simp] theorem setPos_inp_outByteref (s : State) (p : Nat) : (setPos s .inp p).outByteref = s.outByteref := rfl
@[simp] theorem setPos_inp_outInter (s : State) (p : Nat) : (setPos s .inp p).outInter = s.outInter := rfl
@[simp] theorem setPos_inp_outDiag (s : State) (p : Nat) : (setPos s .inp p).outDiag = s.outDiag := rfl
@[simp] theorem setPos_inp_outBytes (s : State) (p : Nat) : (setPos s .inp p).outBytes = s.outBytes := rfl
@[simp] theorem setPos_inp_cfg (s : State) (p : Nat) : (setPos s .inp p).cfg = s.cfg := rfl
@[simp] theorem setPos_inp_moves (s : State) (p : Nat) : (setPos s .inp p).moves = s.moves := rfl
@[simp] theorem setPos_inp_readLog (s : State) (p : Nat) : (setPos s .inp p).readLog = s.readLog := rfl

/-! ## setPos_md -/

@[simp] theorem setPos_md_arg (s : State) (p : Nat) : (setPos s .md p).arg = s.arg := rfl
@[simp] theorem setPos_md_result0 (s : State) (p : Nat) : (setPos s .md p).result0 = s.result0 := rfl
@[simp] theorem setPos_md_result1 (s : State) (p : Nat) : (setPos s .md p).result1 = s.result1 := rfl
@[simp] theorem setPos_md_err (s : State) (p : Nat) : (setPos s .md p).err = s.err := rfl
@[simp] theorem setPos_md_bandMask (s : State) (p : Nat) : (setPos s .md p).bandMask = s.bandMask := rfl
@[simp] theorem setPos_md_frameCnt (s : State) (p : Nat) : (setPos s .md p).frameCnt = s.frameCnt := rfl
@[simp] theorem setPos_md_inLen (s : State) (p : Nat) : (setPos s .md p).inLen = s.inLen := rfl
@[simp] theorem setPos_md_irqStatus (s : State) (p : Nat) : (setPos s .md p).irqStatus = s.irqStatus := rfl
@[simp] theorem setPos_md_irqEnable (s : State) (p : Nat) : (setPos s .md p).irqEnable = s.irqEnable := rfl
@[simp] theorem setPos_md_ckptInfo (s : State) (p : Nat) : (setPos s .md p).ckptInfo = s.ckptInfo := rfl
@[simp] theorem setPos_md_mode (s : State) (p : Nat) : (setPos s .md p).mode = s.mode := rfl
@[simp] theorem setPos_md_found (s : State) (p : Nat) : (setPos s .md p).found = s.found := rfl
@[simp] theorem setPos_md_stopped (s : State) (p : Nat) : (setPos s .md p).stopped = s.stopped := rfl
@[simp] theorem setPos_md_frmValid (s : State) (p : Nat) : (setPos s .md p).frmValid = s.frmValid := rfl
@[simp] theorem setPos_md_mdValid (s : State) (p : Nat) : (setPos s .md p).mdValid = s.mdValid := rfl
@[simp] theorem setPos_md_mem (s : State) (p : Nat) : (setPos s .md p).mem = s.mem := rfl
@[simp] theorem setPos_md_inPos (s : State) (p : Nat) : (setPos s .md p).inPos = s.inPos := rfl
@[simp] theorem setPos_md_mdPos (s : State) (p : Nat) : (setPos s .md p).mdPos = p := rfl
@[simp] theorem setPos_md_mdbuf (s : State) (p : Nat) : (setPos s .md p).mdbuf = s.mdbuf := rfl
@[simp] theorem setPos_md_hist (s : State) (p : Nat) : (setPos s .md p).hist = s.hist := rfl
@[simp] theorem setPos_md_mdRef (s : State) (p : Nat) : (setPos s .md p).mdRef = s.mdRef := rfl
@[simp] theorem setPos_md_frm (s : State) (p : Nat) : (setPos s .md p).frm = s.frm := rfl
@[simp] theorem setPos_md_md (s : State) (p : Nat) : (setPos s .md p).md = s.md := rfl
@[simp] theorem setPos_md_mdst (s : State) (p : Nat) : (setPos s .md p).mdst = s.mdst := rfl
@[simp] theorem setPos_md_xr (s : State) (p : Nat) : (setPos s .md p).xr = s.xr := rfl
@[simp] theorem setPos_md_tag (s : State) (p : Nat) : (setPos s .md p).tag = s.tag := rfl
@[simp] theorem setPos_md_ovl (s : State) (p : Nat) : (setPos s .md p).ovl = s.ovl := rfl
@[simp] theorem setPos_md_vh (s : State) (p : Nat) : (setPos s .md p).vh = s.vh := rfl
@[simp] theorem setPos_md_outFrames (s : State) (p : Nat) : (setPos s .md p).outFrames = s.outFrames := rfl
@[simp] theorem setPos_md_outMaindata (s : State) (p : Nat) : (setPos s .md p).outMaindata = s.outMaindata := rfl
@[simp] theorem setPos_md_outPcm (s : State) (p : Nat) : (setPos s .md p).outPcm = s.outPcm := rfl
@[simp] theorem setPos_md_outByteref (s : State) (p : Nat) : (setPos s .md p).outByteref = s.outByteref := rfl
@[simp] theorem setPos_md_outInter (s : State) (p : Nat) : (setPos s .md p).outInter = s.outInter := rfl
@[simp] theorem setPos_md_outDiag (s : State) (p : Nat) : (setPos s .md p).outDiag = s.outDiag := rfl
@[simp] theorem setPos_md_outBytes (s : State) (p : Nat) : (setPos s .md p).outBytes = s.outBytes := rfl
@[simp] theorem setPos_md_cfg (s : State) (p : Nat) : (setPos s .md p).cfg = s.cfg := rfl
@[simp] theorem setPos_md_moves (s : State) (p : Nat) : (setPos s .md p).moves = s.moves := rfl
@[simp] theorem setPos_md_readLog (s : State) (p : Nat) : (setPos s .md p).readLog = s.readLog := rfl

/-! ## The state after power-on -/

@[simp] theorem reset_arg : State.reset.arg = 0 := rfl
@[simp] theorem reset_result0 : State.reset.result0 = 0 := rfl
@[simp] theorem reset_result1 : State.reset.result1 = 0 := rfl
@[simp] theorem reset_err : State.reset.err = 0 := rfl
@[simp] theorem reset_bandMask : State.reset.bandMask = 0xFFFFFFFF := rfl
@[simp] theorem reset_frameCnt : State.reset.frameCnt = 0 := rfl
@[simp] theorem reset_inLen : State.reset.inLen = 0 := rfl
@[simp] theorem reset_irqStatus : State.reset.irqStatus = 0 := rfl
@[simp] theorem reset_irqEnable : State.reset.irqEnable = 0 := rfl
@[simp] theorem reset_ckptInfo : State.reset.ckptInfo = 0 := rfl
@[simp] theorem reset_mode : State.reset.mode = .idle := rfl
@[simp] theorem reset_found : State.reset.found = false := rfl
@[simp] theorem reset_stopped : State.reset.stopped = false := rfl
@[simp] theorem reset_frmValid : State.reset.frmValid = false := rfl
@[simp] theorem reset_mdValid : State.reset.mdValid = false := rfl
@[simp] theorem reset_mem : State.reset.mem = [] := rfl
@[simp] theorem reset_inPos : State.reset.inPos = 0 := rfl
@[simp] theorem reset_mdPos : State.reset.mdPos = 0 := rfl
@[simp] theorem reset_mdbuf : State.reset.mdbuf = [] := rfl
@[simp] theorem reset_hist : State.reset.hist = [] := rfl
@[simp] theorem reset_mdRef : State.reset.mdRef = [] := rfl
@[simp] theorem reset_frm : State.reset.frm = Frame.reset := rfl
@[simp] theorem reset_md : State.reset.md = .const PartData.reset := rfl
@[simp] theorem reset_mdst : State.reset.mdst = .const .none := rfl
@[simp] theorem reset_tag : State.reset.tag = .const .none := rfl
@[simp] theorem reset_outFrames : State.reset.outFrames = [] := rfl
@[simp] theorem reset_outMaindata : State.reset.outMaindata = [] := rfl
@[simp] theorem reset_outPcm : State.reset.outPcm = ⟨[], []⟩ := rfl
@[simp] theorem reset_outByteref : State.reset.outByteref = [] := rfl
@[simp] theorem reset_outInter : State.reset.outInter = [] := rfl
@[simp] theorem reset_outDiag : State.reset.outDiag = [] := rfl
@[simp] theorem reset_outBytes : State.reset.outBytes = [] := rfl
@[simp] theorem reset_cfg : State.reset.cfg = Config.defaults := rfl
@[simp] theorem reset_moves : State.reset.moves = [] := rfl
@[simp] theorem reset_readLog : State.reset.readLog = [] := rfl

end Sys2Proof.Machine
end

