-- ==== Sys2Proof/Laws/Stages.lean ====
section
/-! SUPPORT. The laws of per-part structures, of the preconditions of a stage, and of the end every stage shares. -/

namespace Sys2Proof.Machine

@[simp] theorem PerChan.get_set_self {α : Type} (x : PerChan α) (c : Chan) (v : α) : (x.set c v).get c = v := by
  cases c <;> rfl

theorem PerChan.get_set_ne {α : Type} (x : PerChan α) {c d : Chan} (v : α) (h : d ≠ c) :
    (x.set c v).get d = x.get d := by cases c <;> cases d <;> first | rfl | exact absurd rfl h

@[simp] theorem PerPart.get_set_self {α : Type} (x : PerPart α) (g : Gran) (c : Chan) (v : α) :
    (x.set g c v).get g c = v := by cases g <;> cases c <;> rfl

theorem PerPart.get_set_ne {α : Type} (x : PerPart α) {g g' : Gran} {c c' : Chan} (v : α) (h : (g', c') ≠ (g, c)) :
    (x.set g c v).get g' c' = x.get g' c' := by
  cases g <;> cases g' <;> cases c <;> cases c' <;> first | rfl | exact absurd rfl h

@[simp] theorem PerPart.get_const {α : Type} (v : α) (g : Gran) (c : Chan) : (PerPart.const v).get g c = v := by
  cases g <;> cases c <;> rfl

theorem needFrame_ok {s : State} (h : s.frmValid = true) : needFrame s = .ok () s := Act.need_of_true h

theorem needFrame_err {s : State} (h : s.frmValid = false) : needFrame s = .err .stageNotReady s := Act.need_of_false h

theorem needPart_ok {c : Chan} {s : State} (h : s.frmValid = true) (hc : chanLegal s.frm.nch c = true) :
    needPart c s = .ok () s := by
  unfold needPart
  rw [Act.bind_of_ok (needFrame_ok h)]
  exact Act.need_of_true hc

theorem needPart_noFrame {c : Chan} {s : State} (h : s.frmValid = false) : needPart c s = .err .stageNotReady s := by
  unfold needPart
  exact Act.bind_of_err (needFrame_err h)

theorem needPart_noChannel {c : Chan} {s : State} (h : s.frmValid = true) (hc : chanLegal s.frm.nch c = false) :
    needPart c s = .err .illegalCommand s := by
  unfold needPart
  rw [Act.bind_of_ok (needFrame_ok h)]
  exact Act.need_of_false hc

/-- All the end of a stage does. -/
theorem stageDone_eq (g : Gran) (c : Chan) (t : Tag) (x : List XReal) (s : State) :
    stageDone g c t x s = { s with
      xr := s.xr.set g c x
      tag := s.tag.set g c t
      outInter := s.outInter ++ (if s.cfg.emitIntermediates then [⟨s.frm.fidx, g, c, t, x⟩] else []) } := by
  unfold stageDone emitInter
  cases s.cfg.emitIntermediates <;> simp

/-- All Resolve can do: nothing and an error (R312), or the buffer, its references and their record (R310). -/
theorem resolve_cases (s : State) :
    (histTotal s.hist < s.frm.si.mainDataEnd.toNat ∧ resolve s = .err .reservoirInsufficient s) ∨
    (s.frm.si.mainDataEnd.toNat ≤ histTotal s.hist ∧
      resolve s = .ok () (clearStages { s with
        mdbuf := (histBytes s.hist).drop ((histBytes s.hist).length - s.frm.si.mainDataEnd.toNat) ++ s.frm.payload
        mdPos := 0
        mdRef := byteRefs s.hist s.frm.si.mainDataEnd.toNat
        outByteref := s.outByteref ++ [⟨s.frm.fidx, byteRefs s.hist s.frm.si.mainDataEnd.toNat⟩] })) := by
  unfold resolve
  by_cases h : histTotal s.hist < s.frm.si.mainDataEnd.toNat
  · exact .inl ⟨h, by simp [h]⟩
  · exact .inr ⟨by omega, by simp [h]⟩

/-- A stage command whose preconditions hold does its stage. -/
theorem stage_command {opc : BitVec 8} {g : Gran} {c : Chan} {t : Tag} {f : State → State} {s : State}
    (hm : modeRefuses s.mode opc = false) (hf : s.frmValid = true) (hc : chanLegal s.frm.nch c = true)
    (ht : s.tag.get g c = t) :
    command opc false ((needPart c).bind fun _ => (needTag g c t).bind fun _ => Act.modify f) s = .next (f s) := by
  apply command_ok hm
  have hn : needTag g c t s = .ok () s := by simp [needTag, needStage, Act.need, ht]
  rw [Act.bind_of_ok (needPart_ok hf hc), Act.bind_of_ok hn]
  rfl

end Sys2Proof.Machine
end

