-- ==== Sys2Proof/Tests/Slice0.lean ====
section
/-! SUPPORT. Tests on fixed values, each from a vector of 95_test_vectors.md or the rule its comment names, and a witness
for the hypotheses of each statement. -/

namespace Sys2Proof.Tests

open Sys2Proof Sys2Proof.Machine Sys2Proof.Safety

set_option Elab.async false

/-! ## Small states -/

/-- The state a command leaves; the commands of the block always leave one. -/
def after (i : Instr) (s : State) : State :=
  match exec i s with
  | .next t => t
  | .fault _ => s
  | .refused _ => s

/-- Power-on with the bytes `b` as the whole input. -/
def onInput (b : List Byte) : State :=
  { State.reset with mem := Memory.ofBytes 0 b, inLen := BitVec.ofNat 32 b.length }

/-- Power-on with the bytes `b` as MDBUF. -/
def onMain (b : List Byte) : State := { State.reset with mdbuf := b }

/-- The first bytes of the minimal frame E1 (spec/95, section 0); every other byte of it is 0. -/
def e1Head : List Byte := [0xFF, 0xFB, 0x50, 0xC0]

/-- Power-on with E1 as the input: 208 bytes. -/
def onE1 : State := { onInput e1Head with inLen := 208 }

/-- The side information of E2's granule 0 (spec/95, section 0). -/
def e2Gran : GranInfo :=
  ⟨14, 2, 210, 0, false, 0, false, ⟨1, 1, 1⟩, ⟨0, 0, 0⟩, 0, 0, false, false, true⟩

/-- Side information of all zeros. -/
def zeroGran : GranInfo :=
  ⟨0, 0, 0, 0, false, 0, false, ⟨0, 0, 0⟩, ⟨0, 0, 0⟩, 0, 0, false, false, false⟩

/-- A Short block with scalefac_compress 5: widths 1 and 1. -/
def shortGran : GranInfo :=
  ⟨0, 0, 210, 5, true, 2, false, ⟨0, 0, 0⟩, ⟨0, 0, 0⟩, 8, 12, false, false, false⟩

/-- A Mixed block with scalefac_compress 5. -/
def mixedGran : GranInfo :=
  ⟨0, 0, 210, 5, true, 2, true, ⟨0, 0, 0⟩, ⟨0, 0, 0⟩, 7, 13, false, false, false⟩

/-- A 44.1 kHz frame of `nch` channels with the same side information for both channels of a granule. -/
def frameOf (nch : Nat) (g0 g1 : GranInfo) : Frame :=
  { Frame.reset with
    hdr := ⟨0xFFF, 1, 1, 1, 5, 0, 0, 0, if nch = 1 then 3 else 1, 0, 0, 0, 0⟩
    nch := nch
    si := ⟨0, 0, List.replicate nch [false, false, false, false], List.replicate nch g0, List.replicate nch g1⟩ }

/-- Power-on with the frame current and the bytes `b` as MDBUF. -/
def withFrame (f : Frame) (b : List Byte) : State := { State.reset with frmValid := true, frm := f, mdbuf := b }

/-- The band tables at 44.1 kHz. -/
def bands44 : Config.Bands := bandsOf Config.defaults 0

/-- E2's frame with its resolved payload's first bytes. -/
def onE2 : State := withFrame (frameOf 1 e2Gran zeroGran) [0x61, 0x60, 0, 0]

/-- The state with MDST of granule 0 and channel 0 at `v`. -/
def staged (v : MdStage) (s : State) : State := setMdst .g0 .c0 v s

/-- The state with XR[0][0] = x and TAG[0][0] = t. -/
def tagged (t : Tag) (x : List XReal) (s : State) : State :=
  { s with xr := s.xr.set .g0 .c0 x, tag := s.tag.set .g0 .c0 t }

/-- The array that is 0 but for `v` at line `n`. -/
def single (n : Nat) (v : XReal) : List XReal := table 576 fun i => if i = n then v else .zero

/-! ## Decoding: words from the field table of R141 and the map of R144 -/

theorem test_decode_run : decode 0x00000000 = .ok .nop ∧ decode 0x00000001 = .ok .reset ∧
    decode 0x00000002 = .ok .run ∧ decode 0x00000003 = .ok .step ∧ decode 0x00000004 = .ok .reply := by decide

theorem test_decode_reader : decode 0b00000000001000000000000000010000 = .ok (.brReadBits .inp 32) ∧
    decode 0b00000000000000010000000100010000 = .ok (.brReadBits .md 1) ∧
    decode 0x00000111 = .ok (.brReadBytes .md) ∧ decode 0x00000012 = .ok (.brSeek .inp) ∧
    decode 0x00000113 = .ok (.brFindByte .md) ∧ decode 0x00000014 = .ok (.brTell .inp) ∧
    decode 0x00000115 = .ok (.brEof .md) := by decide

theorem test_decode_parser : decode 0x00000020 = .ok .parseHeader ∧ decode 0x00000021 = .ok .parseSideinfo ∧
    decode 0x00000022 = .ok .parseFrame ∧ decode 0x00000023 = .ok .resolve ∧ decode 0x00000024 = .ok .histPush := by
  decide

theorem test_decode_spectrum : decode 0x00000030 = .ok .huffPair ∧ decode 0x00000031 = .ok .huffQuad ∧
    decode 0b00000000000000000000010000110010 = .ok (.huffGranule .g0 .c1) ∧
    decode 0b00000000000000000000001000111000 = .ok (.scalefac .g1 .c0) ∧ decode 0x00000039 = .ok .maindata := by
  decide

theorem test_decode_dsp : decode 0x00000640 = .ok (.requant .g1 .c1) ∧ decode 0x00000241 = .ok (.reorder .g1 .c0) ∧
    decode 0x00000242 = .ok (.stereo .g1) ∧ decode 0x00000443 = .ok (.antialias .g0 .c1) ∧
    decode 0x00000044 = .ok (.hybrid .g0 .c0) ∧ decode 0x00000645 = .ok (.freqinv .g1 .c1) ∧
    decode 0x00000446 = .ok (.synth .g0 .c1) ∧ decode 0x00000047 = .ok .reconstruct := by decide

/-- Words of spec/95, section 10, and of 3.3 and 6 that are no commands. -/
theorem test_decode_refused : decode 0x00000005 = .error .unknownOpcode ∧ decode 0x000000FF = .error .unknownOpcode ∧
    decode 0x00000100 = .error .strayBit ∧ decode 0x80000002 = .error .strayBit ∧
    decode 0x00000142 = .error .strayBit ∧ decode 0x00000442 = .error .strayBit ∧
    decode 0x00000830 = .error .strayBit := by decide

theorem test_decodeTableWord : decodeTableWord 32 0x000C0010 = some (.brReadBits .inp 12) ∧
    decodeTableWord 32 0x00000005 = none := by decide

/-- The check of WellFormed refuses N = 33 and N = 63, and takes N = 32 and N = 0 (R252). -/
theorem test_wellFormed_brReadBits : (Instr.brReadBits .inp 33).wellFormed = false ∧
    (Instr.brReadBits .md 63).wellFormed = false ∧ (Instr.brReadBits .inp 32).wellFormed = true ∧
    (Instr.brReadBits .md 0).wellFormed = true := by decide

/-! ## Run control (spec/95, section 9) -/

theorem test_nop : after .nop onE1 = onE1 := by rfl

theorem test_reset_keeps_input : readReg (after .reset onE1) 0x10 = 0x00000008 ∧
    (after .reset onE1).inLen = 208 := by decide +kernel

theorem test_run_starts : readReg (after .run onE1) 0x10 = 0x00000009 := by decide +kernel

theorem test_run_checkpoint : (sequencerStep (after .run onE1)).mode = .checkpoint ∧
    (sequencerStep (after .run onE1)).ckptInfo = 1 ∧ (sequencerStep (after .run onE1)).frameCnt = 1 := by
  decide +kernel

theorem test_step_done : (after .step { onE1 with mode := .done }).result0 = 0xFFFFFFFF := by decide +kernel

/-- Row 24: a candidate that fails, then the end of the input. -/
theorem test_step_end : (after .step (onInput [0xFF, 0xFB, 0x50])).err = 0x00030101 ∧
    (after .step (onInput [0xFF, 0xFB, 0x50])).irqStatus = 0x6 ∧
    (after .step (onInput [0xFF, 0xFB, 0x50])).result0 = 0xFFFFFFFF := by decide +kernel

/-- Rows 14 and 9. -/
theorem test_reply : (after .reply { onE1 with mode := .checkpoint, arg := 2 }).stopped = true ∧
    (after .reply { onE1 with mode := .checkpoint, arg := 1 }).mode = .running := by decide +kernel

/-- Rows 8 and 11. -/
theorem test_refused_by_mode : (after .run { onE1 with mode := .checkpoint }).err = 0x00020412 ∧
    (after .reply { onE1 with mode := .done }).err = 0x00040411 := by decide +kernel

/-! ## The bit reader (spec/95, section 2.1) -/

theorem test_brReadBits : (after (.brReadBits .inp 5) { onE1 with inPos := 15 }).result0 = 0x15 ∧
    (after (.brReadBits .inp 32) onE1).result0 = 0xFFFB50C0 := by decide +kernel

theorem test_brReadBits_errors : (after (.brReadBits .inp 33) onE1).err = 0x00100411 ∧
    (after (.brReadBits .md 1) onE1).err = 0x00100101 := by decide +kernel

theorem test_brReadBytes : (after (.brReadBytes .inp) { onE1 with arg := 2 }).result0 = 0xFFFB0000 ∧
    (after (.brReadBytes .inp) { onE1 with arg := 2 }).outBytes = [[0xFF, 0xFB]] := by decide +kernel

theorem test_brReadBytes_errors : (after (.brReadBytes .inp) { onE1 with inPos := 3 }).err = 0x00110102 ∧
    (after (.brReadBytes .inp) { onE1 with inLen := 4, inPos := 16, arg := 3 }).inPos = 32 := by decide +kernel

theorem test_brSeek : (after (.brSeek .inp) { onE1 with inLen := 4, arg := 100 }).inPos = 32 ∧
    (after (.brSeek .inp) { onE1 with arg := 5 }).result0 = 5 := by decide +kernel

theorem test_brFindByte : (after (.brFindByte .inp) { onInput [0, 0x12, 0xFF, 0xFB] with arg := 0xFF }).inPos = 16 ∧
    (after (.brFindByte .inp) { onInput [0, 0x12, 0xFF, 0xFB] with arg := 0xFF, inPos := 17 }).result0 =
      0xFFFFFFFF := by decide +kernel

theorem test_brTell : (after (.brTell .inp) { onE1 with inPos := 12 }).result0 = 12 ∧
    (after (.brTell .inp) { onE1 with inPos := 12 }).result1 = 1664 := by decide +kernel

theorem test_brEof : (after (.brEof .inp) { onE1 with inLen := 4, inPos := 31 }).result0 = 0 ∧
    (after (.brEof .inp) { onE1 with inLen := 4, inPos := 32 }).result0 = 1 := by decide +kernel

/-! ## Parser and reservoir (spec/95, sections 2.2 and 2.3) -/

theorem test_parseHeader : (after .parseHeader onE1).result0 = 0xFFFB50C0 ∧ (after .parseHeader onE1).result1 = 208 ∧
    (after .parseHeader (onInput [0xFF, 0xFB, 0xEA, 0xC0])).result1 = 1441 := by decide +kernel

/-- Rows 12 and 16. -/
theorem test_parseHeader_errors : (after .parseHeader (onInput [0xFF, 0xF9, 0x50, 0xC0])).err = 0x00200105 ∧
    (after .parseHeader (onInput [0xFF, 0xF9, 0x50, 0xC0])).inPos = 15 ∧
    (after .parseHeader (onInput [0xFF, 0xFB, 0x50, 0xC2])).err = 0x00200109 := by decide +kernel

/-- Row 4. -/
theorem test_parseSideinfo : (after .parseSideinfo { onInput [0x64, 0] with inLen := 17 }).result0 = 200 ∧
    (after .parseSideinfo { onInput [0x64, 0] with inLen := 17 }).result1 = 17 := by decide +kernel

/-- Row 6: split is bit 51 of the stream. -/
theorem test_parseSideinfo_error :
    (after .parseSideinfo { onInput [0, 0, 0, 0, 0, 0, 0x10] with inLen := 17 }).err = 0x0021010A ∧
    (after .parseSideinfo { onInput [0, 0, 0, 0, 0, 0, 0x10] with inLen := 17 }).inPos = 54 := by decide +kernel

theorem test_parseFrame : (after .parseFrame onE1).result1 = 208 ∧ (after .parseFrame onE1).inPos = 1664 ∧
    (after .parseFrame onE1).frm.payload.length = 187 := by decide +kernel

/-- Rows 4 and 5. -/
theorem test_parseFrame_errors : (after .parseFrame { onE1 with inLen := 207 }).inPos = 1656 ∧
    (after .parseFrame { onE1 with inPos := 4 }).err = 0x00220103 := by decide +kernel

/-- Row 3: 10 bytes of an entry of 187 at 21. -/
theorem test_resolve :
    (after .resolve { withFrame { frameOf 1 zeroGran zeroGran with
        si := ⟨10, 0, [], [], []⟩, payload := List.replicate 187 0 } [] with
      hist := [⟨0, 21, List.replicate 187 0⟩] }).mdRef = [⟨0, 198, 10⟩] ∧
    (after .resolve (withFrame { frameOf 1 zeroGran zeroGran with si := ⟨10, 0, [], [], []⟩ } [])).err =
      0x0023020C := by decide +kernel

/-- Row 10: the fourth push drops the first frame. -/
theorem test_histPush :
    (after .histPush { withFrame { frameOf 1 zeroGran zeroGran with payload := List.replicate 187 0 } [] with
      hist := List.replicate 3 ⟨0, 21, List.replicate 187 0⟩ }).result1 = 3 := by decide +kernel

/-! ## Huffman and main data (spec/95, sections 3 and 4) -/

/-- Rows 1 and 9 of 3.1. -/
theorem test_huffPair : (after .huffPair { onMain [0x61, 0x60] with arg := 1 }).result0 = 0xFFFFFFFF ∧
    (after .huffPair { onMain [0x61, 0x60] with arg := 1 }).mdPos = 3 ∧
    (after .huffPair { onMain [0x61, 0x60] with arg := 14 }).err = 0x0030030D := by decide +kernel

/-- Row 15 of 3.1. -/
theorem test_huffPair_end : (after .huffPair { onMain [0] with arg := 1, mdPos := 6 }).mdPos = 8 ∧
    (after .huffPair { onMain [0] with arg := 1, mdPos := 6 }).err = 0x00300301 := by decide +kernel

/-- Rows 3 and 13 of 3.1. -/
theorem test_huffQuad : (after .huffQuad { onMain [0x61, 0x60] with arg := 1, mdPos := 8 }).result0 = 0x01000001 ∧
    (after .huffQuad (onMain [0b01011000])).result0 = 0xFF000000 := by decide +kernel

/-- Row 1 of 3.2. -/
theorem test_huffGranule : ((after (.huffGranule .g0 .c0) (staged .sf onE2)).md.get .g0 .c0).is.take 9 =
      [-1, 0, 1, -1, 1, 0, 0, 1, 0] ∧
    (after (.huffGranule .g0 .c0) (staged .sf onE2)).result0 = 8 := by decide +kernel

/-- Row 3 of 3.2. -/
theorem test_huffGranule_overrun : (after (.huffGranule .g0 .c0) (staged .sf
    (withFrame (frameOf 1 { e2Gran with part23Length := 6 } zeroGran) [0x61, 0x60]))).err = 0x0032030E := by
  decide +kernel

/-- Row 1 of 4.2. -/
theorem test_scalefac_long : ((after (.scalefac .g0 .c0) (withFrame
    (frameOf 1 { zeroGran with scalefacCompress := 5 } zeroGran) [0xFF, 0xFF, 0xF8])).md.get .g0 .c0).sf =
      .long (List.replicate 21 1 ++ [0]) := by decide +kernel

/-- Row 4 of 4.2: the windows of a band together; rows 9 and 10 of 4.1 give the lengths. -/
theorem test_scalefac_windows : ((after (.scalefac .g0 .c0) (withFrame (frameOf 1 shortGran zeroGran)
      [0x80, 0, 0, 0, 0])).md.get .g0 .c0).sf.shortAt 0 0 = 1 ∧
    (after (.scalefac .g0 .c0) (withFrame (frameOf 1 shortGran zeroGran) [0x80, 0, 0, 0, 0])).result0 = 36 := by
  decide +kernel

/-- Row 9 of 4.3. -/
theorem test_maindata : (after .maindata (withFrame (frameOf 2 zeroGran zeroGran) [0])).result0 = 4 := by
  decide +kernel

/-! ## The DSP stages (spec/95, sections 5 to 8) -/

theorem rpow_eight : (8 : ℝ) ^ ((4 : ℝ) / 3) = 16 := by
  rw [show (8 : ℝ) = 2 ^ (3 : ℝ) by norm_num, ← Real.rpow_mul (by norm_num)]
  norm_num

/-- Rows 2 and 3 of 5.1. -/
theorem test_requantValue : (requantValue e2Gran ⟨0, 0, 0⟩ 8).val = 16 ∧
    (requantValue e2Gran ⟨0, 0, 0⟩ (-8)).val = -16 := by
  have h : requantValue e2Gran ⟨0, 0, 0⟩ 8 = .pow 8 4 3 ∧ requantValue e2Gran ⟨0, 0, 0⟩ (-8) = .neg (.pow 8 4 3) := by
    decide +kernel
  rw [h.1, h.2]
  simp only [XReal.val, Int.cast_ofNat, Nat.cast_ofNat, rpow_eight, and_self]

/-- Line lookup of 5.1: Long line 5 is in band 1, Short line 21 in window 2 of band 1, Mixed lines 35 and 36 in long
band 7 and short band 3. -/
theorem test_requant_lines : longBand bands44 5 = 1 ∧ shortBand bands44 21 = 1 ∧
    (21 - shortStart bands44 1) / shortWidth bands44 1 = 2 ∧ isLongLine .mixed 35 = true ∧ longBand bands44 35 = 7 ∧
    isLongLine .mixed 36 = false ∧ shortBand bands44 36 = 3 := by decide

/-- Rows 0 and 4 of 5.2. -/
theorem test_reorder : ((reorderLines bands44 .short ((List.range 576).map fun i => .int i)).take 12) =
      [0, 4, 8, 1, 5, 9, 2, 6, 10, 3, 7, 11].map XReal.int ∧
    (((reorderLines bands44 .short ((List.range 576).map fun i => .int i)).drop 48).take 6) =
      [48, 54, 60, 49, 55, 61].map XReal.int := by decide +kernel

theorem test_reorder_notReady : (after (.reorder .g0 .c0) (staged .huf onE2)).err = 0x00410413 := by decide +kernel

/-- Rows 7 and 9 of section 6: position 6 leaves channel 0's value, and band 21 takes band 20's position. -/
theorem test_stereo_is : stereoLine false (some 6) (.int 1) (.int 5) = (.int 1, .zero) ∧
    (unitOf .copyPrev bands44 .long (.long (List.replicate 20 7 ++ [6, 0])) 500).pos = 6 := by decide +kernel

/-- Row 18 of section 6: line 14 is in the unit of short band 1 and window 2, which begins at 20. -/
theorem test_stereo_shortUnit : (unitOf .copyPrev bands44 .short (.short []) 14).hstart = 20 ∧
    (unitOf .copyPrev bands44 .short (.short []) 15).hstart = 12 := by decide

/-- Rows 1 and 4 of 7.1: x[17] = 1 gives S_0 and A_0; line 8 is in no butterfly. -/
theorem test_antialias : at0 (antialiasLines .long (single 17 (.int 1))) 17 = aaS 0 ∧
    at0 (antialiasLines .long (single 17 (.int 1))) 18 = aaA 0 ∧
    at0 (antialiasLines .long (single 8 (.int 1))) 8 = .int 1 := by decide +kernel

/-- Rows 6 and 8 of 7.1: no butterfly of a Short block, and none of a Mixed block past the first. -/
theorem test_antialias_shapes : at0 (antialiasLines .short (single 17 (.int 1))) 18 = .zero ∧
    at0 (antialiasLines .mixed (single 35 (.int 1))) 36 = .zero := by decide +kernel

/-- Row 3 of 7.2: a zero granule gives out the carry, and the new carry is 0. -/
theorem test_hybrid_zero : at0 (hybridOut .long 0 [] [[.int 5, .int 7]]) 1 = .int 7 ∧
    hybridTail .long 0 [] = List.replicate 32 (List.replicate 18 .zero) := by decide +kernel

/-- Row 4 of 7.2: the short window 0 stands at samples 6 to 17. -/
theorem test_hybrid_short : shortZ (single 0 (.int 1)) 0 5 = .zero ∧ shortZ (single 0 (.int 1)) 0 18 = .zero ∧
    shortZ (single 0 (.int 1)) 0 6 ≠ .zero ∧ shortZ (single 0 (.int 1)) 0 17 ≠ .zero := by decide +kernel

/-- Rows 1 to 4 of 8.1. -/
theorem test_freqinv : at0 (freqInvLines (single 19 (.int 3))) 19 = .int (-3) ∧
    at0 (freqInvLines (single 18 (.int 3))) 18 = .int 3 ∧ at0 (freqInvLines (single 1 (.int 3))) 1 = .int 3 ∧
    at0 (freqInvLines (single 575 (.int 1))) 575 = .int (-1) := by decide +kernel

/-- Row 4 of 8.2: one sample of subband 0 at the first position gives N[0][0] D[0] as the first output. -/
theorem test_synth_first : (synthFrom 0xFFFFFFFF (single 0 (.int 1)) [0] (List.replicate 16 (List.replicate 64 .zero))).2
    |>.getD 0 .zero |> (· = .mul (.cosPi 16 64) (.synthD 0)) := by decide +kernel

/-- Row 3 of 8.2: a muted subband adds nothing. -/
theorem test_synth_muted : gather 0xFFFFFFFE (single 17 (.int 1)) 17 0 = .zero ∧
    gather 0xFFFFFFFF (single 17 (.int 1)) 17 0 = .int 1 := by decide +kernel

theorem test_reconstruct_notReady : (after .reconstruct onE2).err = 0x00470413 := by decide +kernel

/-! ## Witnesses: a state and operands that meet the hypotheses of each statement -/

/-- A host write as the next move. -/
def writing (off : Nat) (v : Word) : State := { State.reset with moves := [.write off v] }

theorem ready_reset : Ready State.reset := .inl rfl

/-- A mono frame is current, with granule 0 decoded. -/
def onMono (t : Tag) : State := tagged t (single 17 (.int 1)) (staged .huf onE2)

theorem partReady_mono (t : Tag) : PartReady (onMono t) .c0 := ⟨.inl rfl, rfl, nofun⟩

/-- A joint-stereo frame with IS and MS on is current, both channels of granule 0 reordered. -/
def onStereo : State :=
  let s := withFrame { frameOf 2 zeroGran zeroGran with
    hdr := ⟨0xFFF, 1, 1, 1, 5, 0, 0, 0, 1, 3, 0, 0, 0⟩ } [0]
  { s with tag := (s.tag.set .g0 .c0 .reord).set .g0 .c1 .reord }

/-- A silent mono frame is current and resolved. -/
def onSilent : State := withFrame (frameOf 1 zeroGran zeroGran) [0]

theorem witness_stepRuns : (writing 0 0x000C0010).moves = .write 0 0x000C0010 :: [] ∧
    decode 0x000C0010 = .ok (.brReadBits .inp 12) := ⟨rfl, by decide⟩

/-- Words that are no commands: an unknown opcode, and stray bits beside those of RESET and REPLY. -/
theorem no_command : ∀ w ∈ [(5 : Word), 0x101, 0x104], ∀ i, encode i ≠ w := by
  intro w hw i h
  simp only [List.mem_cons, List.not_mem_nil, or_false] at hw
  rcases hw with rfl | rfl | rfl <;> cases i <;> first
    | exact absurd h (by decide)
    | (rename_i r n; revert n; cases r <;> decide)
    | (rename_i r; cases r <;> exact absurd h (by decide))
    | (rename_i g c; cases g <;> cases c <;> exact absurd h (by decide))

theorem witness_otherWords : ((writing 0 5).moves = .write 0 5 :: [] ∧ Ready (writing 0 5) ∧ ∀ i, encode i ≠ 5) ∧
    ({ writing 0 0x101 with mode := .running }.moves = .write 0 0x101 :: [] ∧ 0x101 &&& 0xFF = (0x01 : Word) ∧
      ∀ i, encode i ≠ 0x101) ∧
    ({ writing 0 0x104 with mode := .checkpoint }.mode = .checkpoint ∧ 0x104 &&& 0xFF = (0x04 : Word) ∧
      ∀ i, encode i ≠ 0x104) ∧
    ({ writing 0 5 with mode := .running }.mode = .running ∧ 5 &&& 0xFF ≠ (0x01 : Word)) ∧
    { writing 0 5 with mode := .checkpoint }.mode = .checkpoint ∧ 5 &&& 0xFF ≠ (0x04 : Word) :=
  ⟨⟨rfl, .inl rfl, no_command _ (by decide)⟩, ⟨rfl, by decide, no_command _ (by decide)⟩,
    ⟨rfl, by decide, no_command _ (by decide)⟩, ⟨rfl, by decide⟩, rfl, by decide⟩

theorem witness_busy : ({ State.reset with mode := .running }.mode = .running ∧ Instr.nop ≠ .reset) ∧
    ({ State.reset with mode := .checkpoint }.mode = .checkpoint ∧ Instr.run ≠ .reset ∧ Instr.run ≠ .reply) := by
  decide

theorem witness_stageNotReady : (Ready State.reset ∧ needsFrame (.requant .g0 .c0) = true ∧
      State.reset.frmValid = false) ∧
    (Ready onE2 ∧ onE2.frmValid = true ∧ (channelOf (.requant .g0 .c0) = some .c1 → onE2.frm.nch ≠ 1) ∧
      ¬ StageHolds onE2 (.requant .g0 .c0)) :=
  ⟨⟨.inl rfl, rfl, rfl⟩, .inl rfl, rfl, nofun, nofun⟩

theorem witness_secondChannel : (Ready onE2 ∧ channelOf (.synth .g0 .c1) = some .c1 ∧ onE2.frmValid = true ∧
    onE2.frm.nch = 1) ∧ State.reset.frmValid = false := ⟨⟨.inl rfl, rfl, rfl, rfl⟩, rfl⟩

theorem witness_everyCommand : (Instr.nop ≠ .reset ∧ Instr.nop ≠ .run ∧ exec .nop State.reset = .next State.reset) ∧
    State.reset.moves = [] ∧ step State.reset = .next State.reset := ⟨⟨nofun, nofun, rfl⟩, rfl, rfl⟩

/-- E2 with the undefined table 4 for its pairs: MAINDATA fails in the part that follows its scale factors. -/
def onBadTable : State := withFrame (frameOf 1 { e2Gran with tableSelect := ⟨4, 4, 4⟩ } zeroGran) [0x61, 0x60]

/-- A command that fails, also where IRQ_STATUS.ERR is set before it, and MAINDATA. -/
theorem witness_failedCommand : (∃ t, (0b001 : BitVec 3).getLsbD 2 = false ∧
      exec .parseHeader { { State.reset with irqStatus := 0b100 } with irqStatus := 0b001 } = .next t ∧
      t.irqStatus.getLsbD 2 = true ∧ Instr.parseHeader ≠ .maindata) ∧
    ∃ t, (0 : BitVec 3).getLsbD 2 = false ∧ exec .maindata { onBadTable with irqStatus := 0 } = .next t ∧
      t.irqStatus.getLsbD 2 = true ∧ t.mdst.get .g0 .c0 = .sf :=
  ⟨⟨_, rfl, rfl, rfl, nofun⟩, _, rfl, rfl, by decide +kernel, by decide +kernel⟩

theorem witness_readBits : (Ready onE1 ∧ (32 : BitVec 6).toNat ≤ 32 ∧ readerPos onE1 .inp + 32 ≤ streamLen onE1 .inp) ∧
    ((0 : BitVec 6).toNat = 0) ∧ ((1 : BitVec 6).toNat ≠ 0 ∧ streamLen onE1 .md < readerPos onE1 .md + 1) ∧
    32 < (33 : BitVec 6).toNat := ⟨⟨.inl rfl, by decide, by decide⟩, by decide, by decide, by decide⟩

theorem witness_readsCompose : (∃ u v q r, bitRead (src onE1 .inp) 5 0 = .ok u q ∧ bitRead (src onE1 .inp) 3 q = .ok v r) ∧
    (∃ x r, bitRead (src onE1 .inp) (5 + 3) 0 = .ok x r) ∧ 0 % 8 = 0 ∧ 0 + 8 ≤ (src onE1 .inp).len :=
  ⟨⟨_, _, _, _, rfl, rfl⟩, ⟨_, _, rfl⟩, rfl, by decide⟩

theorem witness_readBytes : (readerPos onE1 .inp % 8 = 0 ∧
      readerPos onE1 .inp + 8 * { onE1 with arg := 208 }.arg.toNat ≤ streamLen onE1 .inp) ∧
    (readerPos { onE1 with inPos := 8, inLen := 0 } .inp % 8 = 0 ∧ onE1.arg.toNat = 0 ∧
      streamLen { onE1 with inPos := 8, inLen := 0 } .inp < 8) ∧
    readerPos { onE1 with inPos := 3 } .inp % 8 ≠ 0 ∧ { onE1 with arg := 209 }.arg.toNat ≠ 0 ∧
    streamLen onE1 .inp < readerPos onE1 .inp + 8 * { onE1 with arg := 209 }.arg.toNat := by decide

theorem witness_findByte : (∃ j, (readerPos onE1 .inp + 7) / 8 ≤ j ∧ 8 * (j + 1) ≤ streamLen onE1 .inp ∧
      streamByte onE1 .inp j = 0xFF ∧ ∀ i, (readerPos onE1 .inp + 7) / 8 ≤ i → i < j → streamByte onE1 .inp i ≠ 0xFF) ∧
    ∀ j, (readerPos State.reset .inp + 7) / 8 ≤ j → 8 * (j + 1) ≤ streamLen State.reset .inp →
      streamByte State.reset .inp j ≠ 0xFF := by
  refine ⟨⟨0, by decide, by decide, by decide, fun i _ h => absurd h (by omega)⟩, fun j _ h => ?_⟩
  exact absurd h (by simp [streamLen])

/-- E1's header. -/
def e1Header : Header := ⟨0xFFF, 1, 1, 1, 5, 0, 0, 0, 3, 0, 0, 0, 0⟩

theorem witness_headerRoundTrip : (HeaderLegal e1Header ∧ 0 + 32 ≤ (src onE1 .inp).len ∧
      bitsAt (src onE1 .inp) 0 32 = (writeHeader e1Header).toNat) ∧
    parseHeader (src onE1 .inp) 0 = .ok e1Header 32 := by
  unfold HeaderLegal
  decide

/-- A header that passes, one of another layer, and one cut after its second byte. -/
theorem witness_parseHeader : WordAt onE1 onE1.inPos 0xFFFB50C0 ∧
    readOutcome (headerFault 0xFFFB50C0) headerFields (bitsLeft onE1 0) = none ∧
    WordAt (onInput [0xFF, 0xF9, 0x50, 0xC0]) 0 0xFFF950C0 ∧
    readOutcome (headerFault 0xFFF950C0) headerFields (bitsLeft (onInput [0xFF, 0xF9, 0x50, 0xC0]) 0) =
      some (.badLayer, 15) ∧
    WordAt (onInput [0xFF, 0xFB]) 0 0xFFFB0000 ∧
    readOutcome (headerFault 0xFFFB0000) headerFields (bitsLeft (onInput [0xFF, 0xFB]) 0) =
      some (.unexpectedEnd, 16) := by
  unfold WordAt
  decide

/-- Row 1 of 2.2 with the header cut after its second byte. -/
theorem test_parseHeader_cut : (after .parseHeader (onInput [0xFF, 0xFB])).err = 0x00200101 ∧
    (after .parseHeader (onInput [0xFF, 0xFB])).inPos = 16 := by decide +kernel

theorem witness_sideInfoFields : (∃ si q, parseSideInfo (src onE1 .inp) 1 32 = .ok si q) ∧
    ∃ si q, parseSideInfo (src onE1 .inp) 2 32 = .ok si q := ⟨⟨_, _, rfl⟩, ⟨_, _, rfl⟩⟩

/-- How the reading of mono side information at the position ends. -/
def sideOutcome (s : State) : Option (Err × Nat) :=
  readOutcome (sideFault (src s .inp) s.inPos 1) (sideFields (src s .inp) s.inPos 1) (bitsLeft s s.inPos)

/-- Side information that passes, a split block with block_type 0, and a cut after 16 bits. -/
theorem witness_parseSideinfo : (Ready { onE1 with inPos := 32 } ∧ 1 = (if onE1.arg.getLsbD 0 then 2 else 1)) ∧
    sideOutcome { onE1 with inPos := 32 } = none ∧
    sideOutcome { onInput [0, 0, 0, 0, 0, 0, 0x10] with inLen := 17 } = some (.reservedBlockType, 54) ∧
    sideOutcome { onE1 with inLen := 2 } = some (.unexpectedEnd, 16) := ⟨⟨.inl rfl, rfl⟩, by decide +kernel⟩

/-- E1 four bits later in the input. -/
def onShifted : State := { onInput [0x0F, 0xFF, 0xB5, 0x0C] with inLen := 209, inPos := 4 }

/-- How the parse of a frame with the header word 0xFFFB50C0 ends at the position. -/
def frameOutcomeOf (s : State) : Option (Err × Nat) :=
  frameFault s.cfg (src s .inp) s.inPos 0xFFFB50C0 (bitsLeft s s.inPos)

/-- E1 whole, cut by a byte, and off a byte boundary. -/
theorem witness_parseFrame : (Ready onE1 ∧ TablesOk onE1.cfg ∧ WordAt onE1 onE1.inPos 0xFFFB50C0) ∧
    frameOutcomeOf onE1 = none ∧ WordAt { onE1 with inLen := 207 } 0 0xFFFB50C0 ∧
    frameOutcomeOf { onE1 with inLen := 207 } = some (.unexpectedEnd, 1656) ∧ WordAt onShifted 4 0xFFFB50C0 ∧
    frameOutcomeOf onShifted = some (.misalignedRead, 168) := by
  unfold WordAt
  exact ⟨⟨.inl rfl, ⟨rfl, rfl, rfl⟩, by decide⟩, by decide +kernel⟩

theorem witness_resolve : (Ready onSilent ∧ onSilent.frmValid = true ∧
      onSilent.frm.si.mainDataEnd.toNat ≤ (onSilent.hist.flatMap fun e => e.bytes).length) ∧
    (onSilent.hist.flatMap fun e => e.bytes).length <
      { onSilent with frm := { onSilent.frm with si := ⟨511, 0, [], [], []⟩ } }.frm.si.mainDataEnd.toNat :=
  ⟨⟨.inl rfl, rfl, by decide⟩, by decide⟩

/-- The two pairs of E2's granule 0: bits 0 to 2 and 3 to 7. -/
theorem witness_huffPair : Ready { onE2 with arg := 1 } ∧
    1 = ({ onE2 with arg := 1 }.arg.extractLsb' 0 5).toNat ∧
    (cw 2 0b01 1 0 ∈ hcode 1 ∧ bitsAt (src { onE2 with arg := 1 } .md) 0 2 = 0b01 ∧
      ((-1, 3) : Int × Nat) = signedAt (src { onE2 with arg := 1 } .md) (linbitsOf 1) 1 (0 + 2) ∧
      ((0, 3) : Int × Nat) = signedAt (src { onE2 with arg := 1 } .md) (linbitsOf 1) 0 3 ∧
      3 ≤ 8 * onE2.mdbuf.length) ∧
    0 = ({ onE2 with arg := 0 }.arg.extractLsb' 0 5).toNat ∧
    14 = ({ onE2 with arg := 14 }.arg.extractLsb' 0 5).toNat := ⟨.inl rfl, by decide⟩

/-- The quad of E2's granule 0: bits 8 to 13. -/
theorem witness_huffQuad :
    qw 4 0b0110 0b1001 ∈ quadTable (({ onE2 with arg := 1, mdPos := 8 } : State).arg.getLsbD 0) ∧
    bitsAt (src onE2 .md) 8 4 = 0b0110 ∧ ((1, 13) : Int × Nat) = signedAt (src onE2 .md) 0 1 12 ∧
    ((0, 13) : Int × Nat) = signedAt (src onE2 .md) 0 0 13 ∧ ((1, 14) : Int × Nat) = signedAt (src onE2 .md) 0 1 13 ∧
    14 ≤ 8 * onE2.mdbuf.length := by decide

theorem witness_huffmanErrors :
    (cw 3 0b001 0 1 ∈ hcode 1 ∧ 6 + 2 = 8 * (onMain [0]).mdbuf.length ∧
      bitsAt (src (onMain [0]) .md) 6 2 = 0b001 / 2 ^ (3 - 2)) ∧
    (qw 4 0b0101 0b0001 ∈ quadTable false ∧ bitsAt (src (onMain [0]) .md) 7 1 = 0b0101 / 2 ^ (4 - 1)) ∧
    (∀ f ∈ [cw 2 0b11 0 0, cw 2 0b10 0 1], f.len ≤ 0 → bitsAt (src (onMain [0]) .md) 0 f.len ≠ f.code) ∧
    bitsAt (src (onMain [0]) .md) 0 0 = 0b11 / 2 ^ (2 - 0) ∧
    ∀ f ∈ [cw 2 0b11 0 0, cw 2 0b10 0 1], 0 < f.len →
      bitsAt (src (onMain [0]) .md) 0 (0 + 1) ≠ f.code / 2 ^ (f.len - (0 + 1)) := by decide

/-- The hypotheses of HuffGranule for granule 0 of channel 0, but for its three ends. -/
def GranuleRead (s : State) (gc : GranInfo) (lim m : Nat) (ps qs : Nat → Nat) (xs : Nat → Int × Int)
    (vs : Nat → List Int) : Prop :=
  PartReady s .c0 ∧ s.mdbuf ≠ [] ∧ s.mdst.get .g0 .c0 ≠ .none ∧ gc = granInfo s.frm.si .g0 .c0 ∧
  lim = partStart s.frm .g0 .c0 + gc.part23Length.toNat ∧
  ps 0 = min (partStart s.frm .g0 .c0 + (s.md.get .g0 .c0).p2len) (8 * s.mdbuf.length) ∧
  (∀ k < gc.bigValues.toNat,
    huffPair (src s .md) (pairTable (bandsOf s.cfg s.frm.hdr.samplingIndex) gc k) (ps k) = .ok (xs k) (ps (k + 1))) ∧
  ps gc.bigValues.toNat ≤ lim ∧ qs 0 = ps gc.bigValues.toNat ∧
  ∀ k < m, qs k < lim ∧ huffQuad (src s .md) gc.count1Table (qs k) = .ok (vs k) (qs (k + 1)) ∧ qs (k + 1) ≤ lim

/-- E2 with part_2_3_length `n` and MDBUF `b`. -/
def onGranule (n : BitVec 12) (b : List Byte) : State :=
  staged .sf (withFrame (frameOf 1 { e2Gran with part23Length := n } zeroGran) b)

/-- E2's granule 0 ends with its quad at bit 14. -/
theorem witness_huffGranule : GranuleRead (onGranule 14 [0x61, 0x60]) e2Gran 14 1 (fun k => [0, 3, 8].getD k 0)
      (fun k => [8, 14].getD k 0) (fun k => [(-1, 0), (1, -1)].getD k (0, 0)) (fun _ => [1, 0, 0, 1]) ∧
    [8, 14].getD 1 0 = 14 :=
  ⟨⟨⟨.inl rfl, rfl, nofun⟩, by decide, by decide, rfl, by decide, by decide, by decide, by decide, rfl, by decide⟩, rfl⟩

/-- With part_2_3_length 12 the quad ends past the part. -/
theorem witness_huffGranule_past : GranuleRead (onGranule 12 [0x61, 0x60]) { e2Gran with part23Length := 12 } 12 0
      (fun k => [0, 3, 8].getD k 0) (fun _ => 8) (fun k => [(-1, 0), (1, -1)].getD k (0, 0)) (fun _ => []) ∧ 8 < 12 ∧
    ∃ v, huffQuad (src (onGranule 12 [0x61, 0x60]) .md) e2Gran.count1Table 8 = .ok v 14 ∧ 12 < 14 :=
  ⟨⟨⟨.inl rfl, rfl, nofun⟩, by decide, by decide, rfl, by decide, by decide, by decide, by decide, rfl, by decide⟩,
    by decide, [1, 0, 0, 1], by decide⟩

/-- With one byte in MDBUF it meets the end. -/
theorem witness_huffGranule_end : GranuleRead (onGranule 14 [0x61]) e2Gran 14 0
      (fun k => [0, 3, 8].getD k 0) (fun _ => 8) (fun k => [(-1, 0), (1, -1)].getD k (0, 0)) (fun _ => []) ∧ 8 < 14 ∧
    huffQuad (src (onGranule 14 [0x61]) .md) e2Gran.count1Table 8 = .err .unexpectedEnd 8 :=
  ⟨⟨⟨.inl rfl, rfl, nofun⟩, by decide, by decide, rfl, by decide, by decide, by decide, by decide, rfl, by decide⟩,
    by decide, by decide⟩

/-- With part_2_3_length 6 the second pair ends past the part. -/
theorem witness_part3Overrun : PartReady (onGranule 6 [0x61, 0x60]) .c0 ∧ (onGranule 6 [0x61, 0x60]).mdbuf ≠ [] ∧
    (onGranule 6 [0x61, 0x60]).mdst.get .g0 .c0 ≠ .none ∧
    pairTable bands44 (granInfo (onGranule 6 [0x61, 0x60]).frm.si .g0 .c0) 0 = 1 ∧
    huffPair (src (onGranule 6 [0x61, 0x60]) .md) 1 0 = .ok (-1, 0) 3 ∧
    pairTable bands44 (granInfo (onGranule 6 [0x61, 0x60]).frm.si .g0 .c0) 1 = 1 ∧
    huffPair (src (onGranule 6 [0x61, 0x60]) .md) 1 3 = .ok (1, -1) 8 ∧
    partStart (onGranule 6 [0x61, 0x60]).frm .g0 .c0 +
      (granInfo (onGranule 6 [0x61, 0x60]).frm.si .g0 .c0).part23Length.toNat < 8 :=
  ⟨⟨.inl rfl, rfl, nofun⟩, by decide⟩

/-- Granule 1 copies group 0 from a Long granule 0; 15 bits are read with widths 1 and 1. -/
def onCopy (g0 : GranInfo) (sf : ScaleFac) : State :=
  staged .sf { withFrame { frameOf 1 g0 { zeroGran with scalefacCompress := 5 } with
      si := ⟨0, 0, [[true, false, false, false]], [g0], [{ zeroGran with scalefacCompress := 5 }]⟩ } [0, 0, 0] with
    md := .const { PartData.reset with sf := sf } }

/-- The hypotheses of ScalefacLong for granule 1 of channel 0 at the part's start 0, group 0 copied, widths 1 and 1. -/
def LongRead (s : State) : Prop :=
  PartReady s .c0 ∧ s.mdbuf ≠ [] ∧ shapeOf (granInfo s.frm.si .g1 .c0) = .long ∧
  0 = min (partStart s.frm .g1 .c0) (8 * s.mdbuf.length) ∧
  (1, 1) = slen (granInfo s.frm.si .g1 .c0).scalefacCompress ∧
  [true, false, false, false] = s.frm.si.scfsi.getD (chanIdx .c0) [] ∧
  (s.mdst.get .g0 .c0 ≠ .none ∧ ∃ l, (s.md.get .g0 .c0).sf = .long l) ∧
  15 = partTwoLength .long [true, false, false, false] 1 1

/-- The part whole in MDBUF, and cut by its end. -/
theorem witness_scalefacLong : (LongRead (onCopy zeroGran (.long (List.replicate 22 3))) ∧
      0 + 15 ≤ 8 * (onCopy zeroGran (.long (List.replicate 22 3))).mdbuf.length) ∧
    LongRead { onCopy zeroGran (.long (List.replicate 22 3)) with mdbuf := [0] } ∧ 8 * [(0 : Byte)].length < 0 + 15 :=
  ⟨⟨⟨⟨.inl rfl, rfl, nofun⟩, by decide, by decide, by decide, by decide, by decide, ⟨by decide, _, rfl⟩, by decide⟩,
      by decide⟩,
    ⟨⟨.inl rfl, rfl, nofun⟩, by decide, by decide, by decide, by decide, by decide, ⟨by decide, _, rfl⟩, by decide⟩,
    by decide⟩

/-- A Short granule 0 and a Mixed granule 1, whole in MDBUF and cut by its end. -/
theorem witness_scalefacWindows : PartReady (withFrame (frameOf 1 shortGran mixedGran) [0, 0, 0, 0, 0]) .c0 ∧
    (withFrame (frameOf 1 shortGran mixedGran) [0, 0, 0, 0, 0]).mdbuf ≠ [] ∧
    true ∉ (frameOf 1 shortGran mixedGran).si.scfsi.getD (chanIdx .c0) [] ∧
    0 = min (partStart (frameOf 1 shortGran mixedGran) .g0 .c0) 40 ∧
    0 = min (partStart (frameOf 1 shortGran mixedGran) .g1 .c0) 40 ∧
    (1, 1) = slen shortGran.scalefacCompress ∧ (1, 1) = slen mixedGran.scalefacCompress ∧
    (shapeOf (granInfo (frameOf 1 shortGran mixedGran).si .g0 .c0) = .short ∧ 36 = partTwoLength .short [] 1 1 ∧
      0 + 36 ≤ 8 * [0, 0, 0, 0, (0 : Byte)].length) ∧
    (shapeOf (granInfo (frameOf 1 shortGran mixedGran).si .g1 .c0) = .mixed ∧ 35 = partTwoLength .mixed [] 1 1 ∧
      0 + 35 ≤ 8 * [0, 0, 0, 0, (0 : Byte)].length) ∧ 8 * [0, (0 : Byte)].length < 0 + 35 :=
  ⟨⟨.inl rfl, rfl, nofun⟩, by decide⟩

theorem witness_illegalScfsi : (true ∈ (onCopy zeroGran (.short [])).frm.si.scfsi.getD (chanIdx .c0) [] ∧
      (onCopy zeroGran (.short [])).mdbuf ≠ [] ∧ (onCopy zeroGran (.short [])).mdst.get .g0 .c0 ≠ .none ∧
      ∀ l, ((onCopy zeroGran (.short [])).md.get .g0 .c0).sf ≠ .long l) ∧
    PartReady (onCopy zeroGran (.short [])) .c0 ∧ shapeOf mixedGran ≠ .long :=
  ⟨⟨by decide, by decide, by decide, nofun⟩, ⟨.inl rfl, rfl, nofun⟩, by decide⟩

theorem witness_maindata : Ready onSilent ∧ onSilent.frmValid = true ∧ onSilent.mdbuf ≠ [] ∧ onSilent.frm.nch = 1 ∧
    ∀ q ∈ parts onSilent.frm.nch,
      (granInfo onSilent.frm.si q.1 q.2).part23Length = 0 ∧ (granInfo onSilent.frm.si q.1 q.2).bigValues = 0 ∧
      (granInfo onSilent.frm.si q.1 q.2).scalefacCompress = 0 ∧ shapeOf (granInfo onSilent.frm.si q.1 q.2) = .long ∧
      true ∉ onSilent.frm.si.scfsi.getD (chanIdx q.2) [] := ⟨.inl rfl, rfl, by decide, rfl, by decide⟩

/-- The states between the parts of the silent frame. -/
def silentAt : Nat → State
  | 0 => onSilent
  | k + 1 =>
    match (parts 1)[k]? with
    | none => silentAt k
    | some q =>
      match mainPart q (silentAt k) with
      | .ok _ t => t
      | .err _ t => t

theorem witness_maindataParts : ∀ k q, (parts onSilent.frm.nch)[k]? = some q → ∃ a b d,
    scaleFactors q.1 q.2 (silentAt k) = .ok () a ∧
    huffGranule q.1 q.2 { a with mdst := a.mdst.set q.1 q.2 .sf } = .ok d b ∧
    silentAt (k + 1) = { b with mdst := b.mdst.set q.1 q.2 .huf } := by
  intro k q h
  match k, h with
  | 0, h => cases h; exact ⟨_, _, _, rfl, rfl, rfl⟩
  | 1, h => cases h; exact ⟨_, _, _, rfl, rfl, rfl⟩
  | k + 2, h => cases h

theorem witness_requant : PartReady (onMono .none) .c0 ∧ TablesOk (onMono .none).cfg ∧
    (onMono .none).mdst.get .g0 .c0 = .huf ∧
    GainOf bands44 e2Gran (.long (List.replicate 22 3)) 5 ⟨3, 0, 0⟩ ∧
    GainOf bands44 shortGran (.short (List.replicate 13 [1, 2, 3])) 21 ⟨3, 0, 0⟩ :=
  ⟨partReady_mono _, ⟨rfl, rfl, rfl⟩, rfl, .inl ⟨1, ⟨.inl (by decide), by decide, by decide, by decide⟩, by decide⟩,
    .inr ⟨1, 2, ⟨.inl ⟨by decide, by decide⟩, by decide, by decide, by decide⟩, by decide⟩⟩

theorem witness_reorder : PartReady (onMono .req) .c0 ∧ TablesOk (onMono .req).cfg ∧
    (onMono .req).tag.get .g0 .c0 = .req ∧ bands44 = bandsOf (onMono .req).cfg (onMono .req).frm.hdr.samplingIndex ∧
    (HasShortBand .short 12 ∧ 55 < bandWidth bands44 12) ∧ (HasShortBand .mixed 3 ∧ 3 < bandWidth bands44 3) ∧
    (List.replicate 576 XReal.zero).length = 576 ∧ (0 : BitVec 2) ≠ 3 :=
  ⟨partReady_mono _, ⟨rfl, rfl, rfl⟩, rfl, rfl, ⟨.inl ⟨rfl, by decide⟩, by decide⟩,
    ⟨.inr ⟨rfl, by decide⟩, by decide⟩, List.length_replicate, by decide⟩

theorem witness_stereoIdentity : Ready (onMono .reord) ∧ (onMono .reord).frmValid = true ∧
    (∀ c ∈ chans (onMono .reord).frm.nch, (onMono .reord).tag.get .g0 c = .reord) ∧ (onMono .reord).frm.nch = 1 :=
  ⟨.inl rfl, rfl, by decide, rfl⟩

theorem witness_stereoLines : Ready onStereo ∧ TablesOk onStereo.cfg ∧ onStereo.frmValid = true ∧ onStereo.frm.nch = 2 ∧
    onStereo.cfg.isLastBand = .copyPrev ∧ onStereo.tag.get .g0 .c0 = .reord ∧ onStereo.tag.get .g0 .c1 = .reord ∧
    onStereo.frm.hdr.mode = 1 ∧ onStereo.frm.hdr.modeExt ≠ 0 ∧
    UnitOf bands44 .long (.long (List.replicate 21 3 ++ [0])) 500 418 3 ∧
    UnitOf bands44 .short (.short (List.replicate 13 [1, 2, 3])) 14 20 3 :=
  ⟨.inl rfl, ⟨rfl, rfl, rfl⟩, rfl, rfl, rfl, rfl, rfl, rfl, by decide,
    .inl ⟨21, ⟨.inl rfl, by decide, by decide, by decide⟩, by decide, by decide⟩,
    .inr ⟨1, 2, 0, .inl ⟨rfl, by decide⟩, by decide, by decide, by decide, by decide, by decide⟩⟩

theorem witness_stereoProperties : isOn (onMono .reord).frm.hdr = false := by decide

theorem witness_antialias : PartReady (onMono .stereo) .c0 ∧ (onMono .stereo).tag.get .g0 .c0 = .stereo ∧
    shapeOf (granInfo (onMono .stereo).frm.si .g0 .c0) = .long := ⟨partReady_mono _, rfl, by decide⟩

theorem witness_hybrid : PartReady (onMono .aa) .c0 ∧ (onMono .aa).tag.get .g0 .c0 = .aa := ⟨partReady_mono _, rfl⟩

theorem witness_freqinv : PartReady (onMono .hyb) .c0 ∧ (onMono .hyb).tag.get .g0 .c0 = .hyb :=
  ⟨partReady_mono _, rfl⟩

theorem witness_synth : PartReady (onMono .fi) .c0 ∧ (onMono .fi).tag.get .g0 .c0 = .fi := ⟨partReady_mono _, rfl⟩

theorem witness_reconstruct : Ready { onSilent with mdValid := true, mdst := .const .huf } ∧ onSilent.frmValid = true ∧
    onSilent.frm.nch = 1 ∧ (∀ q ∈ parts onSilent.frm.nch, onSilent.tag.get q.1 q.2 = .none) ∧
    ∀ q ∈ parts onSilent.frm.nch,
      { onSilent with mdValid := true, mdst := .const .huf }.mdst.get q.1 q.2 = .huf :=
  ⟨.inl rfl, rfl, rfl, by decide, by decide⟩

/-- A run in which the sequencer is to move. -/
def running (s : State) : State := { s with mode := .running }

/-- Power-on as the next move, in a run. -/
theorem witness_powerOn : { running onE1 with moves := [.powerOn] }.moves = .powerOn :: [] ∧
    step { running onE1 with moves := [.powerOn] } = .next State.reset := ⟨rfl, rfl⟩

theorem witness_reply : ({ State.reset with mode := .checkpoint, arg := 1 }.arg.getLsbD 0 = true) ∧
    ({ State.reset with mode := .checkpoint, arg := 2 }.arg.getLsbD 0 = false) := by decide

/-- The three outcomes of an attempt: a candidate that fails, a frame, the end of the input. -/
theorem witness_stepCommand : (∃ t, frameAttempt 0x03 (onInput [0xFF, 0xFB, 0x50]) = (.resync, t)) ∧
    (∃ t, frameAttempt 0x03 onE1 = (.frame, t)) ∧ ∃ t, frameAttempt 0x03 State.reset = (.finished, t) :=
  ⟨⟨_, rfl⟩, ⟨_, rfl⟩, ⟨_, rfl⟩⟩

theorem witness_sequencerStep : ((running onE1).mode = .running ∧ (running onE1).moves = [] ∧
      TablesOk (running onE1).cfg) ∧
    (∃ f p, parseFrame (running onE1).cfg (src (running onE1) .inp) (8 * 0) = .ok f p) ∧
    (∃ e p, parseFrame Config.defaults (src (onInput [0xFF, 0xFB, 0x50]) .inp) (8 * 0) = .err e p) ∧
    streamByte (running onE1) .inp 0 = 0xFF ∧ 0 < (running onE1).inLen.toNat ∧ State.reset.inLen.toNat = 0 :=
  ⟨⟨rfl, rfl, rfl, rfl, rfl⟩, ⟨_, _, rfl⟩, ⟨_, _, rfl⟩, by decide, by decide, by decide⟩

/-- A frame that decodes, and one that borrows 200 bytes of an empty history. -/
theorem witness_frameOutcome : (∃ t, step (running onE1) = .next t ∧ t.ckptInfo.getLsbD 0 = true) ∧
    ∃ t, step (running { onInput [0xFF, 0xFB, 0x50, 0xC0, 0x64] with inLen := 208 }) = .next t ∧
      t.ckptInfo.getLsbD 0 = false := by
  refine ⟨⟨_, rfl, ?_⟩, ⟨_, rfl, ?_⟩⟩ <;> decide +kernel

theorem witness_runTerminates : (running onE1).mode = .running ∧ { onE1 with mode := .checkpoint }.mode = .checkpoint :=
  ⟨rfl, rfl⟩

theorem witness_registerMap : ∀ off v, (writing off v).moves = .write off v :: [] ∧ Ready (writing off v) ∧
    ¬ Ready (running (writing off v)) ∧
    { writing off v with moves := [.read off] }.moves = .read off :: [] :=
  fun _ _ => ⟨rfl, .inl rfl, nofun, rfl⟩

/-- R47: the register takes a length above IN_MAX. -/
theorem test_inLen_above_max : { writing 0x20 9 with cfg := { Config.defaults with inMax := 4 } }.moves =
      .write 0x20 9 :: [] ∧
    step { writing 0x20 9 with cfg := { Config.defaults with inMax := 4 } } =
      .next { State.reset with cfg := { Config.defaults with inMax := 4 }, inLen := 9 } := ⟨rfl, rfl⟩

theorem witness_hostWritesInput : State.reset.mem.wf ∧ Ready State.reset ∧ 4294967294 < State.reset.cfg.inMax ∧
    ¬ Ready (running State.reset) ∧ State.reset.cfg.inMax ≤ 4294967295 :=
  ⟨by decide, .inl rfl, by decide, nofun, by decide⟩

/-- The invariants hold of a state with a step to take: power-on with RUN as the next command. -/
theorem witness_invariants : MemoryOk (writing 0 0x00000002) ∧ StagesOk (writing 0 0x00000002) ∧
    OutputsOk (writing 0 0x00000002) ∧ RecordsOk (writing 0 0x00000002) ∧
    ∃ t, step (writing 0 0x00000002) = .next t ∧ t.mode = .running := by
  refine ⟨?_, ⟨⟨rfl, rfl, rfl⟩, nofun, ?_, by decide, by decide, ?_, ?_, nofun, ?_⟩, ⟨rfl, nofun, ?_, nofun, ?_, nofun⟩,
    ⟨.inl rfl, .inl rfl⟩, ⟨_, rfl, rfl⟩⟩
  · unfold MemoryOk
    decide
  · exact fun _ => ⟨rfl, rfl, rfl, rfl, rfl⟩
  · intro g c h
    exact absurd (by cases g <;> cases c <;> rfl) h
  · intro g c h
    exact absurd (by cases g <;> cases c <;> rfl) h
  · intro _ g
    cases g <;> rfl
  · intro c
    cases c <;> exact ⟨0, rfl⟩
  · intro h
    rfl

theorem witness_arrays : ArraysOk (writing 0 0x00000002) ∧ SpectrumOk (writing 0 0x00000002) := by
  refine ⟨⟨?_, ?_, ?_, ?_⟩, ?_⟩
  · intro g c; cases g <;> cases c <;> exact List.length_replicate
  · intro g c; cases g <;> cases c <;> exact List.length_replicate
  · intro c
    have h : (writing 0 0x00000002).ovl.get c = List.replicate 32 (List.replicate 18 .zero) := by cases c <;> rfl
    rw [h]
    exact ⟨List.length_replicate, fun l hl => by rw [List.eq_of_mem_replicate hl]; exact List.length_replicate⟩
  · intro c
    have h : (writing 0 0x00000002).vh.get c = List.replicate 16 (List.replicate 64 .zero) := by cases c <;> rfl
    rw [h]
    exact ⟨List.length_replicate, fun l hl => by rw [List.eq_of_mem_replicate hl]; exact List.length_replicate⟩
  · intro g c
    have h : (writing 0 0x00000002).md.get g c = PartData.reset := by cases g <;> cases c <;> rfl
    rw [h]
    refine ⟨Nat.zero_le _, fun i _ => ?_, fun x hx => ?_⟩
    · show (List.replicate 576 (0 : Int)).getD i 0 = 0
      rw [List.getD_eq_getElem?_getD, List.getElem?_replicate]
      split <;> rfl
    · rw [List.eq_of_mem_replicate hx]
      decide

end Sys2Proof.Tests
end

/-! # The state family, part 1: what an action ends with

A weakest-precondition reading of `Act`, so that the body of a command is taken apart by its combinators and not by
unfolding them. -/

namespace Sys2Proof.Machine

/-! ## Weakest preconditions -/

/-- `x`, run in `s`, ends with an answer and a state that satisfy `Q`, or with an error and a state that satisfy `E`. -/
def Act.wp {σ α : Type} (x : Act σ α) (Q : α → σ → Prop) (E : Err → σ → Prop) (s : σ) : Prop :=
  match x s with
  | .ok a t => Q a t
  | .err e t => E e t

section
variable {σ α β ι : Type} {Q : α → σ → Prop} {E : Err → σ → Prop} {s t : σ}

theorem Act.wp_of_ok {x : Act σ α} {a : α} (h : x s = .ok a t) : x.wp Q E s ↔ Q a t := by simp [Act.wp, h]

theorem Act.wp_of_err {x : Act σ α} {e : Err} (h : x s = .err e t) : x.wp Q E s ↔ E e t := by simp [Act.wp, h]

theorem Act.wp_bind {R : β → σ → Prop} {x : Act σ α} {f : α → Act σ β} :
    (x.bind f).wp R E s ↔ x.wp (fun a => (f a).wp R E) E s := by
  unfold Act.wp Act.bind
  cases x s <;> rfl

/-- `need` goes on where its condition holds, and raises its error where it does not. -/
theorem Act.wp_need {R : Unit → σ → Prop} {p : σ → Bool} {e : Err} (hok : p s = true → R () s)
    (herr : p s = false → E e s) : (Act.need p e).wp R E s := by
  cases hp : p s with
  | true => exact (Act.wp_of_ok (Act.need_of_true hp)).2 (hok hp)
  | false => exact (Act.wp_of_err (Act.need_of_false hp)).2 (herr hp)

theorem Act.wp_mono {R : α → σ → Prop} {F : Err → σ → Prop} {x : Act σ α} (h : x.wp Q E s)
    (hQ : ∀ a t, Q a t → R a t) (hE : ∀ e t, E e t → F e t) : x.wp R F s := by
  unfold Act.wp at *
  cases hx : x s with
  | ok a t => exact hQ a t (by rwa [hx] at h)
  | err e t => exact hE e t (by rwa [hx] at h)

/-- Both ways an action can end, with what is known of each. -/
theorem Act.wp_cases {x : Act σ α} (h : x.wp Q E s) :
    (∃ a t, x s = .ok a t ∧ Q a t) ∨ ∃ e t, x s = .err e t ∧ E e t := by
  unfold Act.wp at h
  cases hx : x s with
  | ok a t => rw [hx] at h; exact .inl ⟨a, t, rfl, h⟩
  | err e t => rw [hx] at h; exact .inr ⟨e, t, rfl, h⟩

/-- A loop over a list: `I done` holds when the items `done` are behind. -/
theorem Act.wp_forEach {f : ι → Act σ α} (l : List ι) (I : List ι → σ → Prop)
    (hstep : ∀ done i rest, l = done ++ i :: rest → ∀ t, I done t → (f i).wp (fun _ => I (done ++ [i])) E t)
    (h0 : I [] s) : (Act.forEach f l).wp (fun _ => I l) E s := by
  suffices H : ∀ rest done t, l = done ++ rest → I done t → (Act.forEach f rest).wp (fun _ => I l) E t from
    H l [] s rfl h0
  intro rest
  induction rest with
  | nil =>
    intro done t hl hI
    rw [hl, List.append_nil]
    exact hI
  | cons i rest ih =>
    intro done t hl hI
    refine Act.wp_bind.2 (Act.wp_mono (hstep done i rest hl t hI) (fun a u hu => ?_) fun _ _ h => h)
    exact Act.wp_bind.2 (Act.wp_mono (ih (done ++ [i]) u (by simp [hl]) hu) (fun _ _ h => h) fun _ _ h => h)

end

/-! ## Reads

What every reader action does: it answers a value of a kind, or raises an error of a kind, and in either case leaves a
position within the stream within the stream (R250). -/

/-- `x` reads the stream `src`: its answers satisfy `V`, its errors `C`, and it does not leave the stream. -/
def Reads {α : Type} (src : Src) (V : α → Prop) (C : Err → Prop) (x : Rd α) : Prop :=
  ∀ p, x.wp (fun a q => V a ∧ (p ≤ src.len → q ≤ src.len)) (fun e q => C e ∧ (p ≤ src.len → q ≤ src.len)) p

namespace Reads

variable {α β ι : Type} {src : Src} {V : α → Prop} {W : β → Prop} {C : Err → Prop}

theorem pure {a : α} (h : V a) : Reads src V C (Act.pure a) := fun _ => ⟨h, id⟩

theorem raise {e : Err} (h : C e) : Reads src V C (Act.raise e : Rd α) := fun _ => ⟨h, id⟩

theorem get : Reads src (fun _ => True) C Act.get := fun _ => ⟨trivial, id⟩

theorem need {p : Nat → Bool} {e : Err} (h : C e) : Reads src (fun _ => True) C (Act.need p e) := fun _ =>
  Act.wp_need (fun _ => ⟨trivial, id⟩) fun _ => ⟨h, id⟩

theorem bind {x : Rd α} {f : α → Rd β} (hx : Reads src V C x) (hf : ∀ a, V a → Reads src W C (f a)) :
    Reads src W C (x.bind f) := fun p =>
  Act.wp_bind.2 <| Act.wp_mono (hx p)
    (fun a _ ⟨ha, hq⟩ => Act.wp_mono (hf a ha _) (fun _ _ h => ⟨h.1, h.2 ∘ hq⟩) fun _ _ h => ⟨h.1, h.2 ∘ hq⟩)
    fun _ _ h => h

theorem mono {V' : α → Prop} {x : Rd α} (hx : Reads src V C x) (h : ∀ a, V a → V' a) : Reads src V' C x := fun p =>
  Act.wp_mono (hx p) (fun a _ hq => ⟨h a hq.1, hq.2⟩) fun _ _ h => h

theorem check {x : Rd α} {p : α → Bool} {e : Err} (hx : Reads src V C x) (he : C e) :
    Reads src (fun a => V a ∧ p a = true) C (x.check p e) := by
  refine hx.bind fun a ha => ?_
  cases hp : p a with
  | true => exact pure ⟨ha, hp⟩
  | false => exact raise he

/-- Items in a row: as many answers, each of the kind. -/
theorem replicate {f : Rd α} (hf : Reads src V C f) (n : Nat) :
    Reads src (fun l => l.length = n ∧ ∀ a ∈ l, V a) C (Act.repeat f n) := by
  induction n with
  | zero => exact pure ⟨rfl, nofun⟩
  | succ n ih =>
    refine hf.bind fun a ha => ih.bind fun l hl => pure ⟨congrArg Nat.succ hl.1, ?_⟩
    simpa [ha] using hl.2

theorem forEach {f : ι → Rd α} (is : List ι) (hf : ∀ i ∈ is, Reads src V C (f i)) :
    Reads src (fun l => l.length = is.length ∧ ∀ a ∈ l, V a) C (Act.forEach f is) := by
  induction is with
  | nil => exact pure ⟨rfl, nofun⟩
  | cons i is ih =>
    have htail := ih fun j hj => hf j (List.mem_cons_of_mem i hj)
    refine (hf i List.mem_cons_self).bind fun a ha => htail.bind fun l hl => pure ⟨congrArg Nat.succ hl.1, ?_⟩
    simpa [ha] using hl.2

end Reads

section
variable {src : Src} {C : Err → Prop}

theorem bitRead_reads (n : Nat) (h : C .unexpectedEnd) : Reads src (fun v => v < 2 ^ n) C (bitRead src n) := by
  intro p
  rcases bitRead_cases src n p with ⟨hn, h'⟩ | ⟨-, -, h'⟩
  · exact (Act.wp_of_ok h').2 ⟨bitsAt_lt src p n, fun _ => by omega⟩
  · exact (Act.wp_of_err h').2 ⟨h, id⟩

theorem readField_reads (w : Nat) (h : C .unexpectedEnd) : Reads src (fun _ => True) C (readField src w) :=
  (bitRead_reads w h).bind fun _ _ => .pure trivial

theorem readFlag_reads (h : C .unexpectedEnd) : Reads src (fun _ => True) C (readFlag src) :=
  (bitRead_reads 1 h).bind fun _ _ => .pure trivial

theorem byteRead_reads (n : Nat) (h : C .unexpectedEnd) (h' : C .misalignedRead) :
    Reads src (fun b => b.length = n) C (byteRead src n) := by
  intro p
  rcases byteRead_cases src n p with ⟨-, hr⟩ | ⟨-, -, -, hr⟩ | ⟨-, hn, hr⟩
  · exact (Act.wp_of_err hr).2 ⟨h', id⟩
  · exact (Act.wp_of_err hr).2 ⟨h, fun _ => by omega⟩
  · exact (Act.wp_of_ok hr).2 ⟨bytesAt_length src _ n, fun _ => by omega⟩

theorem seekTo_reads (q : Nat) : Reads src (fun _ => True) C (seekTo src q) := fun _ =>
  ⟨trivial, fun _ => Nat.min_le_right _ _⟩

theorem findByte_reads (v : Byte) : Reads src (fun _ => True) C (findByte src v) := by
  intro p
  rcases findByte_cases src v p with ⟨j, hj, hr⟩ | ⟨-, hr⟩
  · have := (findFrom_eq_some.1 hj).2.1
    exact (Act.wp_of_ok hr).2 ⟨trivial, fun _ => by omega⟩
  · exact (Act.wp_of_ok hr).2 ⟨trivial, id⟩

end

end Sys2Proof.Machine

/-! # The state family, part 2: what the parser and the decoders read -/

namespace Sys2Proof.Machine

open Sys2Proof.Safety

/-! ## Frames -/

/-- An error of the parser: its class is stream (R621). -/
abbrev StreamErr (e : Err) : Prop := e.cls false = .stream

section
variable {src : Src}

theorem parseHeader_reads : Reads src HeaderLegal StreamErr (parseHeader src) := by
  refine ((readField_reads 12 (by rfl)).check (by rfl)).bind fun sync hsync => ?_
  refine ((readField_reads 1 (by rfl)).check (by rfl)).bind fun id hid => ?_
  refine ((readField_reads 2 (by rfl)).check (by rfl)).bind fun layer hlayer => ?_
  refine (readField_reads 1 (by rfl)).bind fun protection _ => ?_
  refine (((readField_reads 4 (by rfl)).check (by rfl)).check (by rfl)).bind fun bitrate hbitrate => ?_
  refine ((readField_reads 2 (by rfl)).check (by rfl)).bind fun sampling hsampling => ?_
  refine (readField_reads 1 (by rfl)).bind fun padding _ => ?_
  refine (readField_reads 1 (by rfl)).bind fun priv _ => ?_
  refine (readField_reads 2 (by rfl)).bind fun mode _ => ?_
  refine (readField_reads 2 (by rfl)).bind fun modeExt _ => ?_
  refine (readField_reads 1 (by rfl)).bind fun copyright _ => ?_
  refine (readField_reads 1 (by rfl)).bind fun original _ => ?_
  refine ((readField_reads 2 (by rfl)).check (by rfl)).bind fun emphasis hemphasis => ?_
  exact .pure ⟨by simpa using hsync, by simpa using hid, by simpa using hlayer, by simpa using hbitrate.1,
    by simpa using hbitrate.2, by simpa using hsampling, by simpa using hemphasis⟩

theorem parseSplitFields_reads :
    Reads src (fun x => x.1 ≠ 0 ∧ (x.2.1 = true → x.1 = 2)) StreamErr (parseSplitFields src) := by
  refine ((readField_reads 2 (by rfl)).check (by rfl)).bind fun blockType hblock => ?_
  refine ((readFlag_reads (by rfl)).check (by rfl)).bind fun switchPoint hswitch => ?_
  refine (readField_reads 5 (by rfl)).bind fun t0 _ => ?_
  refine (readField_reads 5 (by rfl)).bind fun t1 _ => ?_
  refine (readField_reads 3 (by rfl)).bind fun g0 _ => ?_
  refine (readField_reads 3 (by rfl)).bind fun g1 _ => ?_
  refine (readField_reads 3 (by rfl)).bind fun g2 _ => .pure ⟨by simpa using hblock, fun hon => ?_⟩
  subst hon
  simpa using hswitch

theorem parseNormalFields_reads : Reads src (fun _ => True) StreamErr (parseNormalFields src) := by
  refine (readField_reads 5 (by rfl)).bind fun t0 _ => ?_
  refine (readField_reads 5 (by rfl)).bind fun t1 _ => ?_
  refine (readField_reads 5 (by rfl)).bind fun t2 _ => ?_
  refine (readField_reads 4 (by rfl)).bind fun ra1 _ => ?_
  exact (readField_reads 3 (by rfl)).bind fun ra2 _ => .pure trivial

theorem parseGranInfo_reads : Reads src granLegal StreamErr (parseGranInfo src) := by
  refine (readField_reads 12 (by rfl)).bind fun part23Length _ => ?_
  refine (readField_reads 9 (by rfl)).bind fun bigValues _ => ?_
  refine (readField_reads 8 (by rfl)).bind fun globalGain _ => ?_
  refine (readField_reads 4 (by rfl)).bind fun scalefacCompress _ => ?_
  refine (readFlag_reads (by rfl)).bind fun split _ => ?_
  refine Reads.bind (V := fun x =>
    (split = true → x.1 ≠ 0 ∧ (x.2.1 = true → x.1 = 2)) ∧
    (split = false → x.1 = 0 ∧ x.2.1 = false ∧ x.2.2.2.1 = ⟨0, 0, 0⟩)) ?_ fun x hx => ?_
  · cases split with
    | true => exact parseSplitFields_reads.bind fun y hy => .pure ⟨fun _ => hy, nofun⟩
    | false => exact parseNormalFields_reads.bind fun y _ => .pure ⟨nofun, fun _ => ⟨rfl, rfl, rfl⟩⟩
  · refine (readFlag_reads (by rfl)).bind fun preflag _ => ?_
    refine (readFlag_reads (by rfl)).bind fun scalefacScale _ => ?_
    exact (readFlag_reads (by rfl)).bind fun count1Table _ => .pure hx

/-- The side information has an entry for each channel, and only blocks the parser accepts (R48, R300). -/
def SideInfoLegal (nch : Nat) (si : SideInfo) : Prop :=
  si.scfsi.length = nch ∧ si.gr0.length = nch ∧ si.gr1.length = nch ∧ ∀ gc ∈ si.gr0 ++ si.gr1, granLegal gc

theorem parseSideInfo_reads (nch : Nat) : Reads src (SideInfoLegal nch) StreamErr (parseSideInfo src nch) := by
  refine (readField_reads 9 (by rfl)).bind fun mainDataEnd _ => ?_
  have hprivate : Reads src (fun _ => True) StreamErr (parsePrivateBits src nch) :=
    (bitRead_reads _ (by rfl)).bind fun _ _ => .pure trivial
  refine hprivate.bind fun privateBits _ => ?_
  refine (((readFlag_reads (by rfl)).replicate 4).replicate nch).bind fun scfsi hscfsi => ?_
  refine (parseGranInfo_reads.replicate nch).bind fun gr0 h0 => ?_
  refine (parseGranInfo_reads.replicate nch).bind fun gr1 h1 => .pure ⟨hscfsi.1, h0.1, h1.1, fun gc hgc => ?_⟩
  rcases List.mem_append.1 hgc with h | h
  · exact h0.2 gc h
  · exact h1.2 gc h

theorem parseCrc_reads (h : Header) :
    Reads src (fun crc => crc.isSome = true ↔ h.protection = 0) StreamErr (parseCrc src h) := by
  unfold parseCrc
  by_cases hp : h.protection = 0
  · rw [if_pos hp]
    exact (readField_reads 16 (by rfl)).bind fun c _ => .pure ⟨fun _ => hp, fun _ => rfl⟩
  · rw [if_neg hp]
    exact .pure ⟨nofun, fun h => absurd h hp⟩

end

/-- With this hardware's tables a frame is 96 to 1441 bytes long (R291, R294). -/
theorem frameSize_bounds {c : Config.Params} (hc : TablesOk c) {h : Header} (hh : HeaderLegal h) :
    96 ≤ frameSize c h ∧ frameSize c h ≤ 1441 := by
  obtain ⟨hbit, hrate, -⟩ := hc
  obtain ⟨-, -, -, h0, h15, h3, -⟩ := hh
  have hpad : h.padding.toNat < 2 := h.padding.isLt
  have quotient : ∀ (b : BitVec 4) (r : BitVec 2), b ≠ 0 → b ≠ 15 → r ≠ 3 →
      96 ≤ 144000 * [0, 32, 40, 48, 56, 64, 80, 96, 112, 128, 160, 192, 224, 256, 320].getD b.toNat 0 /
        [44100, 48000, 32000].getD r.toNat 0 ∧
      144000 * [0, 32, 40, 48, 56, 64, 80, 96, 112, 128, 160, 192, 224, 256, 320].getD b.toNat 0 /
        [44100, 48000, 32000].getD r.toNat 0 ≤ 1440 := by decide
  have := quotient h.bitrateIndex h.samplingIndex h0 h15 h3
  rw [frameSize, bitrateKbps, sampleRateHz, hbit, hrate]
  omega

theorem headLen_le (crc : Option (BitVec 16)) (nch : Nat) : 21 ≤ headLen crc nch ∧ headLen crc nch ≤ 38 := by
  unfold headLen
  split_ifs <;> omega

/-- A frame the parser answers is one the parser makes, with this hardware's tables (R302). -/
theorem parseFrame_reads (c : Config.Params) {src : Src} :
    Reads src (fun f => TablesOk c → FrameOk c f) StreamErr (parseFrame c src) := by
  intro p
  refine Reads.bind (parseHeader_reads (src := src)) (fun hdr hhdr => ?_) p
  refine (parseCrc_reads hdr).bind fun crc hcrc => ?_
  refine (parseSideInfo_reads (nchOf hdr)).bind fun si ⟨hscfsi, hgr0, hgr1, hgran⟩ => ?_
  refine (byteRead_reads _ (by rfl) (by rfl)).bind fun payload hpayload => .pure fun hc => ?_
  have hsize := frameSize_bounds hc hhdr
  have hlen := headLen_le crc (nchOf hdr)
  refine ⟨hhdr, rfl, hcrc, ?_, rfl, ?_, hscfsi, hgr0, hgr1, hgran⟩
  · simp only [headLen]
    cases crc <;> rfl
  · simp only [hpayload]
    omega

/-- The payload of a frame is at most 1420 bytes (R42). -/
theorem payload_length_le {c : Config.Params} (hc : TablesOk c) {f : Frame} (h : FrameOk c f) :
    f.payload.length ≤ 1420 := by
  obtain ⟨hhdr, -, -, hlen, hsize, hsum, -⟩ := h
  have := frameSize_bounds hc hhdr
  split_ifs at hlen <;> omega

/-! ## Huffman codes -/

/-- An error of the main-data decoder: its class is spectral (R433, R621). -/
abbrev SpectralErr (e : Err) : Prop := e.cls true = .spectral

section
variable {src : Src}

theorem huffFrom_reads {α : Type} (t : List (Code α)) (n : Nat) (c : Code Unit) :
    Reads src (fun a => ∃ e ∈ t, e.val = a) SpectralErr (huffFrom src t n c) := by
  induction n generalizing c with
  | zero => exact .raise (by rfl)
  | succ n ih =>
    refine (bitRead_reads 1 (by rfl)).bind fun b _ => ?_
    dsimp only
    split
    next e he => exact .pure ⟨e, List.mem_of_find?_eq_some he, rfl⟩
    next =>
      split
      · exact ih _
      · exact .raise (by rfl)

theorem huff_reads {α : Type} (t : List (Code α)) :
    Reads src (fun a => ∃ e ∈ t, e.val = a) SpectralErr (huff src t) := huffFrom_reads t _ _

/-- The codewords of every table stand for pairs of magnitudes at most 15 (R343, R390, R404). -/
def PairsTo15 (t : PairTable) : Prop := ∀ e ∈ t, e.val.1 ≤ 15 ∧ e.val.2 ≤ 15

theorem xmaxOf_le (t : Nat) : xmaxOf t ≤ 15 := by
  by_cases h : t < 16
  · have : ∀ t < 16, xmaxOf t ≤ 15 := by decide
    exact this t h
  · simp [xmaxOf, List.getD, show 16 ≤ t by omega]

theorem openTable_pairs (t : Nat) : PairsTo15 (openTable t) := by
  have hx := xmaxOf_le t
  intro e he
  unfold openTable at he
  split at he
  next hok =>
    have hall := (Bool.and_eq_true_iff.1 (Bool.and_eq_true_iff.1 hok).1).2
    have := List.all_eq_true.1 hall e he
    simp only [Bool.and_eq_true, decide_eq_true_eq] at this
    omega
  next =>
    simp only [plainTable, cw, List.mem_flatMap, List.mem_map, List.mem_range] at he
    obtain ⟨x, hx', y, hy, rfl⟩ := he
    dsimp only
    omega

theorem hcode_pairs (t : Nat) : PairsTo15 (hcode t) := by
  unfold hcode
  split
  · unfold PairsTo15; decide
  · unfold PairsTo15; decide
  · unfold PairsTo15; decide
  · unfold PairsTo15; decide
  · unfold PairsTo15; decide
  · exact openTable_pairs _

theorem linbitsOf_le (t : Nat) : linbitsOf t ≤ 13 := by
  by_cases h : t < 32
  · have : ∀ t < 32, linbitsOf t ≤ 13 := by decide
    exact this t h
  · simp [linbitsOf, List.getD, show 32 ≤ t by omega]

/-! ## Values -/

theorem readEscape_reads {lb x : Nat} (hlb : lb ≤ 13) (hx : x ≤ 15) :
    Reads src (fun y => y ≤ 8206) SpectralErr (readEscape src lb x) := by
  unfold readEscape
  split
  · have hpow : 2 ^ lb ≤ 2 ^ 13 := Nat.pow_le_pow_right (by decide) hlb
    exact (bitRead_reads lb (by rfl)).bind fun e he => .pure (by omega)
  · exact .pure (by omega)

theorem readSign_reads {x : Nat} (hx : x ≤ 8206) :
    Reads src (fun z => z.natAbs ≤ 8206) SpectralErr (readSign src x) := by
  unfold readSign
  split
  · exact (bitRead_reads 1 (by rfl)).bind fun b _ => .pure (by split <;> omega)
  · exact .pure (by decide)

theorem huffPair_reads (t : BitVec 5) :
    Reads src (fun z => z.1.natAbs ≤ 8206 ∧ z.2.natAbs ≤ 8206) SpectralErr (huffPair src t) := by
  unfold huffPair
  split
  · exact .raise (by rfl)
  · split
    · exact .pure (by decide)
    · refine (huff_reads _).bind fun m ⟨e, he, hm⟩ => ?_
      obtain ⟨hx, hy⟩ := hcode_pairs _ e he
      rw [hm] at hx hy
      refine (readEscape_reads (linbitsOf_le _) hx).bind fun x hx => ?_
      refine (readSign_reads hx).bind fun sx hsx => ?_
      refine (readEscape_reads (linbitsOf_le _) hy).bind fun y hy => ?_
      exact (readSign_reads hy).bind fun sy hsy => .pure ⟨hsx, hsy⟩

theorem huffQuad_reads (sel : Bool) :
    Reads src (fun q => ∀ z ∈ q, z.natAbs ≤ 8206) SpectralErr (huffQuad src sel) := by
  refine (huff_reads _).bind fun q _ => (Reads.forEach _ fun x hx => readSign_reads ?_).mono fun l hl => hl.2
  simp only [List.mem_cons, List.not_mem_nil, or_false] at hx
  omega

/-! ## Spectra -/

/-- The symbols' values are magnitudes at most 8206 (R55). -/
def SymsOk (l : List DiagSym) : Prop := ∀ d ∈ l, ∀ z ∈ d.vals, z.natAbs ≤ 8206

theorem symsOk_cons {d : DiagSym} {l : List DiagSym} (hd : ∀ z ∈ d.vals, z.natAbs ≤ 8206) (hl : SymsOk l) :
    SymsOk (d :: l) := by
  intro e he
  rcases List.mem_cons.1 he with rfl | he
  · exact hd
  · exact hl e he

theorem bigValues_reads (gc : GranInfo) (r1 r2 n p : Nat) :
    Reads src SymsOk SpectralErr (bigValues src gc r1 r2 n p) := by
  induction n generalizing p with
  | zero => exact .pure nofun
  | succ n ih =>
    refine Reads.get.bind fun start _ => ?_
    refine (huffPair_reads _).bind fun z hz => ?_
    refine Reads.get.bind fun stop _ => ?_
    refine (ih _).bind fun rest hrest => .pure (symsOk_cons ?_ hrest)
    simpa using hz

theorem count1Quads_reads (sel : Bool) (stop n : Nat) :
    Reads src SymsOk SpectralErr (count1Quads src sel stop n) := by
  induction n with
  | zero => exact .pure nofun
  | succ n ih =>
    intro p
    unfold Act.wp count1Quads
    by_cases hp : p < stop
    · rw [if_pos hp]
      rcases Act.wp_cases (huffQuad_reads (src := src) sel p) with ⟨q, p', hq, hvals, hpos⟩ | ⟨e, p', hq, he, hpos⟩ <;>
        rw [hq] <;> dsimp only
      · by_cases hstop : stop < p'
        · rw [if_pos hstop]
          exact ⟨symsOk_cons hvals nofun, hpos⟩
        · rw [if_neg hstop]
          have hrest := ih.bind fun rest hrest => .pure (symsOk_cons (d := ⟨.quad, p, p' - p, q⟩) hvals hrest)
          exact Act.wp_mono (hrest p') (fun _ _ h => ⟨h.1, h.2 ∘ hpos⟩) fun _ _ h => ⟨h.1, h.2 ∘ hpos⟩
      · cases e
        case unexpectedEnd => exact ⟨symsOk_cons nofun nofun, hpos⟩
        all_goals exact ⟨he, hpos⟩
    · rw [if_neg hp]
      exact ⟨nofun, id⟩

/-- The values of a spectrum are magnitudes at most 8206 (R55). -/
theorem readSpectrum_reads (gc : GranInfo) (r1 r2 p3 stop : Nat) :
    Reads src (fun x => ∀ z ∈ x.vals, z.natAbs ≤ 8206) SpectralErr (readSpectrum src gc r1 r2 p3 stop) := by
  refine (seekTo_reads p3).bind fun _ _ => ?_
  refine (bigValues_reads gc r1 r2 _ 0).bind fun pairs hpairs => ?_
  refine (Reads.need (by rfl)).bind fun _ _ => ?_
  refine Reads.get.bind fun bigEnd _ => ?_
  refine (count1Quads_reads gc.count1Table stop _).bind fun quads hquads => .pure fun z hz => ?_
  simp only [Spectrum.vals, Spectrum.kept, List.mem_flatMap, List.mem_append, List.mem_filter] at hz
  obtain ⟨d, hd | hd, hz⟩ := hz
  · exact hpairs d hd z hz
  · exact hquads d hd.1 z hz

/-! ## Scale factors -/

theorem readNibble_reads (w : Nat) :
    Reads src (fun _ => True) SpectralErr ((bitRead src w).bind fun v => Act.pure (BitVec.ofNat 4 v)) :=
  (bitRead_reads w (by rfl)).bind fun _ _ => .pure trivial

/-- The short bands from b0 on: three windows each, the last band 0 (R425, R426). -/
theorem readShortBands_reads (w : Nat × Nat) (b0 : Nat) :
    Reads src (fun s => s.length = 12 - b0 + 1 ∧ (∀ r ∈ s, r.length = 3) ∧ s.getD (12 - b0) [] = [0, 0, 0])
      SpectralErr (readShortBands src w b0) := by
  refine (Reads.forEach _ fun b _ => (readNibble_reads _).replicate 3).bind fun s ⟨hlen, hrow⟩ => .pure ?_
  rw [List.length_range'] at hlen
  refine ⟨by simp [hlen], fun r hr => ?_, by simp [List.getD, ← hlen]⟩
  rcases List.mem_append.1 hr with hr | hr
  · exact (hrow r hr).1
  · rw [List.mem_singleton.1 hr]; rfl

/-- The scale factors of a part are of the variant of its shape (R56, R421). -/
theorem readScaleFac_reads (gc : GranInfo) (cp : List Bool) (sf0 : ScaleFac) :
    Reads src (SfOk (shapeOf gc)) SpectralErr (readScaleFac src gc cp sf0) := by
  unfold readScaleFac
  cases hshape : shapeOf gc with
  | short => exact (readShortBands_reads _ 0).bind fun s hs => .pure ⟨rfl, hs⟩
  | mixed =>
    refine ((readNibble_reads _).replicate 8).bind fun l hl => ?_
    exact (readShortBands_reads _ 3).bind fun s hs => .pure ⟨rfl, hl.1, hs⟩
  | long =>
    refine (Reads.forEach (V := fun _ => True) _ fun b _ => ?_).bind fun l ⟨hlen, _⟩ => .pure ?_
    · unfold readLongBand
      split
      · exact .pure trivial
      · exact readNibble_reads _
    · rw [List.length_range] at hlen
      exact ⟨rfl, by simp [hlen], by simp [List.getD, hlen]⟩

end

end Sys2Proof.Machine

/-! # The state family, part 3: the changes a command is made of

`Change` lists, once, every elementary change of the state that a command's body or the sequencer makes, each with the
condition it is made under. Every command but RUN and RESET, and every turn of the sequencer, is a row of such changes
and of records of its errors, with at most one change of the run state at the end. An invariant is then proved change by
change. -/

namespace Sys2Proof.Machine

open Sys2Proof.Safety

/-- A DSP stage may take up part (g, c): the part is decoded, or tagged by an earlier stage, or one of a frame whose
parts are all decoded (R625). -/
def StageOpen (s : State) (g : Gran) (c : Chan) : Prop :=
  s.mdst.get g c ≠ .none ∨ s.tag.get g c ≠ .none ∨ s.mdValid = true ∧ (g, c) ∈ parts s.frm.nch

/-- The size of an overlap array (R58). -/
def OvlSized (l : List (List XReal)) : Prop := l.length = 32 ∧ ∀ r ∈ l, r.length = 18

/-- The size of a synthesis history (R59). -/
def VhSized (l : List (List XReal)) : Prop := l.length = 16 ∧ ∀ r ∈ l, r.length = 64

/-- The values `is` with zpb = `zpb` keep to the ranges of R55 and R357. -/
def SpectrumFits (is : List Int) (zpb : Nat) : Prop :=
  is.length = 576 ∧ zpb ≤ 576 ∧ (∀ i, zpb ≤ i → is.getD i 0 = 0) ∧ ∀ x ∈ is, x.natAbs ≤ 8206

/-- An elementary change that a command's body makes, with the condition it is made under. -/
inductive Change (s : State) : State → Prop
  /-- A reader's position moves, BR_MD's not out of MDBUF (R250). -/
  | seek (r : Reader) (p : Nat) (h : r = .md → s.mdPos ≤ 8 * s.mdbuf.length → p ≤ 8 * s.mdbuf.length) :
      Change s (setPos s r p)
  | results (v w : Word) : Change s (setResults v w s)
  | found (b : Bool) : Change s { s with found := b }
  | outBytes (b : List Byte) : Change s { s with outBytes := s.outBytes ++ [b] }
  /-- A parsed frame becomes the current one (R303). -/
  | commit (r : Frame) (h : TablesOk s.cfg → FrameOk s.cfg r) : Change s (commitFrame r s)
  | resolve (t : State) (hf : s.frmValid = true) (h : resolve s = .ok () t) : Change s t
  | histPush : Change s (histPush s)
  /-- A part takes scale factors of its shape (R428). -/
  | scaleFactors (g : Gran) (c : Chan) (sf : ScaleFac) (start len : Nat)
      (h : SfOk (shapeOf (granInfo s.frm.si g c)) sf) :
      Change s { s with md := s.md.set g c { s.md.get g c with sf, p23start := start, p2len := len } }
  /-- A part takes a spectrum (R360). -/
  | spectrum (g : Gran) (c : Chan) (is : List Int) (zpb count1 : Nat) (h : SpectrumFits is zpb) :
      Change s { s with md := s.md.set g c { s.md.get g c with is, zpb, count1 } }
  /-- A part that has its scale factors is marked as decoded so far (R430). -/
  | decoded (g : Gran) (c : Chan) (v : MdStage) (hv : v ≠ .none) (hf : s.frmValid = true)
      (hc : chanLegal s.frm.nch c = true)
      (h : s.mdst.get g c ≠ .none ∨ SfOk (shapeOf (granInfo s.frm.si g c)) (s.md.get g c).sf) :
      Change s (setMdst g c v s)
  /-- All parts of the frame are decoded (R430). -/
  | mdValid (hf : s.frmValid = true) (h : ∀ q ∈ parts s.frm.nch, s.mdst.get q.1 q.2 ≠ .none) :
      Change s { s with mdValid := true }
  | outMaindata (m : OutMain) : Change s { s with outMaindata := s.outMaindata ++ [m] }
  | outDiag (ds : List OutDiag) : Change s { s with outDiag := s.outDiag ++ ds }
  /-- A stage ends (R57, R466). -/
  | stage (g : Gran) (c : Chan) (t : Tag) (x : List XReal) (ho : StageOpen s g c)
      (hx : (s.xr.get g c).length = 576 → x.length = 576) : Change s (stageDone g c t x s)
  | overlap (c : Chan) (l : List (List XReal)) (h : OvlSized l) : Change s { s with ovl := s.ovl.set c l }
  | history (c : Chan) (l : List (List XReal)) (h : VhSized (s.vh.get c) → VhSized l) :
      Change s { s with vh := s.vh.set c l }
  | outPcm (c : Chan) (x : List XReal) (h : 576 ∣ x.length) :
      Change s { s with outPcm := s.outPcm.set c (s.outPcm.get c ++ x) }
  /-- An interrupt bit other than ERR is set (R49). -/
  | interrupt (q : BitVec 3) (h : q.getLsbD 2 = false) : Change s { s with irqStatus := s.irqStatus ||| q }
  | ckptInfo (fail : Option Err) : Change s (setCkpt fail s)

/-- A row of changes: what the body of a command does. -/
def Works : State → State → Prop := Relation.ReflTransGen Change

/-- A change, or the record of an error with its class under the opcode `opc` (R622). -/
def ChangeOrRecord (opc : BitVec 8) (s t : State) : Prop :=
  Change s t ∨ ∃ e main, t = record e (Err.cls main e) opc s

/-- A row of changes and records: what a command, or a turn of the sequencer, does under its opcode. -/
def Reaches (opc : BitVec 8) : State → State → Prop := Relation.ReflTransGen (ChangeOrRecord opc)

/-- The changes of the run state that a command or a turn of the sequencer ends with (R205-R213). -/
inductive ModeChange (s : State) : State → Prop
  | stay : ModeChange s s
  | finish : ModeChange s (endRun s)
  | checkpoint (hm : s.mode = .running) (hf : s.frmValid = true) : ModeChange s (enterCheckpoint s)
  | answer (hm : s.mode = .checkpoint) : ModeChange s (answerCheckpoint s)

/-- The changes that begin anew: RUN, RESET and power-on (R201, R202, R670). -/
inductive Restart (s : State) : State → Prop
  | run : Restart s (startRun s)
  | reset : Restart s (resetBlock s)
  | powerOn : Restart s (powerOn s)

/-- The fields the host's own accesses reach: its registers, IRQ_STATUS, IN, and the model's lists. -/
def HostAccess (s t : State) : Prop :=
  t = { s with arg := t.arg, bandMask := t.bandMask, inLen := t.inLen, irqStatus := t.irqStatus,
               irqEnable := t.irqEnable, mem := t.mem, moves := t.moves, readLog := t.readLog }

/-! ## Rows of changes -/

theorem Works.refl (s : State) : Works s s := Relation.ReflTransGen.refl

theorem Works.trans {s t u : State} (h : Works s t) (h' : Works t u) : Works s u := Relation.ReflTransGen.trans h h'

theorem Change.works {s t : State} (h : Change s t) : Works s t := .single h

theorem Works.change {s t u : State} (h : Works s t) (h' : Change t u) : Works s u := h.tail h'

theorem Reaches.refl (opc : BitVec 8) (s : State) : Reaches opc s s := Relation.ReflTransGen.refl

theorem Reaches.trans {opc : BitVec 8} {s t u : State} (h : Reaches opc s t) (h' : Reaches opc t u) : Reaches opc s u :=
  Relation.ReflTransGen.trans h h'

theorem Works.reaches {s t : State} (opc : BitVec 8) (h : Works s t) : Reaches opc s t :=
  Relation.ReflTransGen.mono (fun _ _ => Or.inl) _ _ h

theorem Reaches.change {opc : BitVec 8} {s t u : State} (h : Reaches opc s t) (h' : Change t u) : Reaches opc s u :=
  h.tail (.inl h')

theorem Reaches.record {opc : BitVec 8} {s t : State} (h : Reaches opc s t) (e : Err) (main : Bool) :
    Reaches opc s (record e (e.cls main) opc t) := h.tail (.inr ⟨e, main, rfl⟩)

/-- A predicate that every change keeps holds at the end of a row of them. -/
theorem Works.keeps {P : State → Prop} (hc : ∀ s t, Change s t → P s → P t) {s t : State} (h : Works s t) (hs : P s) :
    P t := by
  induction h with
  | refl => exact hs
  | tail _ h ih => exact hc _ _ h ih

/-- A predicate that every change and every record keeps holds at the end of a row of them. -/
theorem Reaches.keeps {opc : BitVec 8} {P : State → Prop} (hc : ∀ s t, Change s t → P s → P t)
    (hr : ∀ s e main, P s → P (Machine.record e (Err.cls main e) opc s)) {s t : State} (h : Reaches opc s t)
    (hs : P s) : P t := by
  induction h with
  | refl => exact hs
  | tail _ h ih =>
    rcases h with h | ⟨e, main, rfl⟩
    · exact hc _ _ h ih
    · exact hr _ _ _ ih

/-! ## What no change reaches -/

theorem emitDiag_cases (ds : List OutDiag) (s : State) :
    emitDiag ds s = s ∨ emitDiag ds s = { s with outDiag := s.outDiag ++ ds } := by
  unfold emitDiag
  cases s.cfg.emitIntermediates
  · exact .inl rfl
  · exact .inr rfl

@[simp] theorem emitDiag_mdValid (ds : List OutDiag) (s : State) : (emitDiag ds s).mdValid = s.mdValid := by
  rcases emitDiag_cases ds s with h | h <;> rw [h]

theorem emitDiag_works (ds : List OutDiag) (s : State) : Works s (emitDiag ds s) := by
  rcases emitDiag_cases ds s with h | h <;> rw [h]
  · exact .refl s
  · exact (Change.outDiag ds).works

theorem resolve_ok {s t : State} (h : resolve s = .ok () t) :
    s.frm.si.mainDataEnd.toNat ≤ histTotal s.hist ∧ t = clearStages { s with
      mdbuf := (histBytes s.hist).drop ((histBytes s.hist).length - s.frm.si.mainDataEnd.toNat) ++ s.frm.payload
      mdPos := 0
      mdRef := byteRefs s.hist s.frm.si.mainDataEnd.toNat
      outByteref := s.outByteref ++ [⟨s.frm.fidx, byteRefs s.hist s.frm.si.mainDataEnd.toNat⟩] } := by
  rcases resolve_cases s with ⟨-, h'⟩ | ⟨hk, h'⟩
  · rw [h'] at h
    exact absurd h nofun
  · rw [h'] at h
    injection h with _ ht
    exact ⟨hk, ht.symm⟩

/-- The run state, a current frame's being there, and the ERR bit, which no change of a command's body takes away. -/
def RunStateKept (s t : State) : Prop :=
  t.mode = s.mode ∧ t.stopped = s.stopped ∧ (s.frmValid = true → t.frmValid = true) ∧
    t.irqStatus.getLsbD 2 = s.irqStatus.getLsbD 2

theorem Change.runStateKept {s t : State} (h : Change s t) : RunStateKept s t := by
  cases h with
  | seek r p _ => cases r <;> exact ⟨rfl, rfl, id, rfl⟩
  | commit r _ => exact ⟨rfl, rfl, fun _ => rfl, rfl⟩
  | resolve t _ ht => rw [(resolve_ok ht).2]; exact ⟨rfl, rfl, id, rfl⟩
  | stage g c t x _ _ => rw [stageDone_eq]; exact ⟨rfl, rfl, id, rfl⟩
  | interrupt q hq => exact ⟨rfl, rfl, id, by rw [BitVec.getLsbD_or, hq, Bool.or_false]⟩
  | _ => exact ⟨rfl, rfl, id, rfl⟩

theorem Works.irqErr {s t : State} (h : Works s t) : t.irqStatus.getLsbD 2 = s.irqStatus.getLsbD 2 :=
  h.keeps (P := fun u => u.irqStatus.getLsbD 2 = s.irqStatus.getLsbD 2)
    (fun _ _ hc hu => by rw [hc.runStateKept.2.2.2, hu]) rfl

theorem Reaches.mode {opc : BitVec 8} {s t : State} (h : Reaches opc s t) : t.mode = s.mode :=
  h.keeps (P := fun u => u.mode = s.mode) (fun _ _ hc hu => by rw [hc.runStateKept.1, hu]) (fun _ _ _ hu => hu) rfl

theorem Reaches.frmValid {opc : BitVec 8} {s t : State} (h : Reaches opc s t) : s.frmValid = true → t.frmValid = true :=
  h.keeps (P := fun u => s.frmValid = true → u.frmValid = true) (fun _ _ hc hu hs => hc.runStateKept.2.2.1 (hu hs))
    (fun _ _ _ hu => hu) id

/-! ## Reader actions -/

/-- A reader action as an action of the block: its answer, its error and its move are those of its reads. -/
theorem onReader_wp {α : Type} {r : Reader} {f : Src → Rd α} {V : α → Prop} {C : Err → Prop} {s : State}
    (h : Reads (src s r) V C (f (src s r))) :
    (onReader r f).wp (fun a t => V a ∧ Change s t ∧ ∃ p, t = setPos s r p)
      (fun e t => C e ∧ Change s t ∧ ∃ p, t = setPos s r p) s := by
  have hlen : ∀ p, (readerPos s r ≤ (src s r).len → p ≤ (src s r).len) → Change s (setPos s r p) := fun p hp =>
    .seek r p fun hr => by subst hr; exact hp
  have := h (readerPos s r)
  rcases onReader_cases r f s with ⟨a, p, hf, ho⟩ | ⟨e, p, hf, ho⟩
  · rw [Act.wp_of_ok hf] at this
    exact (Act.wp_of_ok ho).2 ⟨this.1, hlen p this.2, p, rfl⟩
  · rw [Act.wp_of_err hf] at this
    exact (Act.wp_of_err ho).2 ⟨this.1, hlen p this.2, p, rfl⟩

/-! ## Main data -/

/-- A spectrum's values, cut or padded to 576, fit (R356, R357). -/
theorem spectrumFits_fit576 {v : List Int} (h : ∀ z ∈ v, z.natAbs ≤ 8206) :
    SpectrumFits (fit576 v) (min 576 v.length) := by
  unfold fit576
  refine ⟨?_, Nat.min_le_left _ _, fun i hi => ?_, fun x hx => ?_⟩
  · rw [List.length_take, List.length_append, List.length_replicate]
    omega
  · rw [List.getD_eq_getElem?_getD, List.getElem?_take]
    split
    next hi' =>
      have hv : v.length ≤ i := by omega
      rw [List.getElem?_append_right hv, List.getElem?_replicate]
      split <;> rfl
    next => rfl
  · rcases List.mem_append.1 (List.mem_of_mem_take hx) with hx | hx
    · exact h x hx
    · rw [(List.mem_replicate.1 hx).2]; decide

/-- What decoding main data changes: BR_MD's position, MD and MDST, and no MDST back to NONE. -/
structure Decodes (s t : State) : Prop where
  works : Works s t
  frame : t = { s with mdPos := t.mdPos, md := t.md, mdst := t.mdst }
  mdst : ∀ g c, s.mdst.get g c ≠ .none → t.mdst.get g c ≠ .none

namespace Decodes

theorem refl (s : State) : Decodes s s := ⟨.refl s, rfl, fun _ _ => id⟩

theorem trans {s t u : State} (h : Decodes s t) (h' : Decodes t u) : Decodes s u :=
  ⟨h.works.trans h'.works, by rw [h'.frame, h.frame], fun g c => h'.mdst g c ∘ h.mdst g c⟩

theorem frm {s t : State} (h : Decodes s t) : t.frm = s.frm := by rw [h.frame]

theorem frmValid {s t : State} (h : Decodes s t) : t.frmValid = s.frmValid := by rw [h.frame]

theorem of_seek {s t : State} (h : Change s t) (ht : ∃ p, t = setPos s .md p) : Decodes s t := by
  obtain ⟨p, rfl⟩ := ht
  exact ⟨h.works, rfl, fun _ _ => id⟩

end Decodes

/-- A stage set by `setMdst` to other than NONE leaves no part undecoded that was decoded. -/
theorem mdst_set_ne_none (x : PerPart MdStage) (g : Gran) (c : Chan) {v : MdStage} (hv : v ≠ .none) (g' : Gran)
    (c' : Chan) (h : x.get g' c' ≠ .none) : (x.set g c v).get g' c' ≠ .none := by
  by_cases hq : (g', c') = (g, c)
  · obtain ⟨rfl, rfl⟩ := Prod.mk.inj hq
    rwa [PerPart.get_set_self]
  · rwa [PerPart.get_set_ne _ _ hq]

theorem setMdst_decodes {g : Gran} {c : Chan} {v : MdStage} {s : State} (hv : v ≠ .none) (hf : s.frmValid = true)
    (hc : chanLegal s.frm.nch c = true)
    (h : s.mdst.get g c ≠ .none ∨ SfOk (shapeOf (granInfo s.frm.si g c)) (s.md.get g c).sf) :
    Decodes s (setMdst g c v s) :=
  ⟨(Change.decoded g c v hv hf hc h).works, rfl, mdst_set_ne_none _ _ _ hv⟩

/-- Granule 0, which a Long part of granule 1 would copy a group of, is not decoded (R625, log 10). -/
def CopyNotReady (s : State) (g : Gran) (c : Chan) (e : Err) : Prop :=
  e = .stageNotReady ∧ g = .g1 ∧ s.mdst.get .g0 c = .none

/-- All ScaleFactors can do (R428): the part's scale factors, of its shape, or an error and a move of BR_MD. -/
theorem scaleFactors_wp (g : Gran) (c : Chan) (s : State) :
    (scaleFactors g c).wp
      (fun _ t => Decodes s t ∧ t.mdst = s.mdst ∧ SfOk (shapeOf (granInfo t.frm.si g c)) (t.md.get g c).sf)
      (fun e t => Decodes s t ∧ (SpectralErr e ∨ CopyNotReady s g c e)) s := by
  unfold scaleFactors
  refine Act.wp_bind.2 (Act.wp_need (fun _ => ?_) fun hp => ⟨.refl s, .inr ⟨rfl, ?_⟩⟩)
  · refine Act.wp_bind.2 (Act.wp_need (fun _ => ?_) fun _ => ⟨.refl s, .inl rfl⟩)
    refine Act.wp_bind.2 (Act.wp_mono (onReader_wp (seekTo_reads _)) ?_ fun e t ⟨he, hseek, ht⟩ =>
      ⟨.of_seek hseek ht, .inl he⟩)
    rintro - t ⟨-, hseek, q, rfl⟩
    refine Act.wp_bind.2 (Act.wp_bind.2 (Act.wp_mono (onReader_wp (readScaleFac_reads _ _ _)) ?_ ?_))
    · rintro sf t ⟨hsf, hread, p, rfl⟩
      refine ⟨⟨(hseek.works.change hread).change (.scaleFactors g c sf _ _ hsf), rfl, fun _ _ => id⟩, rfl, ?_⟩
      dsimp only
      rw [PerPart.get_set_self]
      exact hsf
    · rintro e t ⟨he, hread, p, rfl⟩
      exact ⟨⟨hseek.works.change hread, rfl, fun _ _ => id⟩, .inl he⟩
  · cases g with
    | g0 => simp [copyFlags] at hp
    | g1 => simp_all

/-- All HuffGranule can do (R360): the part's spectrum, or an error and a move of BR_MD. -/
theorem huffGranule_wp (g : Gran) (c : Chan) (s : State) :
    (huffGranule g c).wp
      (fun _ t => Decodes s t ∧ t.mdst = s.mdst) (fun e t => Decodes s t ∧ SpectralErr e) s := by
  unfold huffGranule
  refine Act.wp_bind.2 (Act.wp_mono (onReader_wp (readSpectrum_reads _ _ _ _ _)) ?_ ?_)
  · rintro x t ⟨hx, hread, p, rfl⟩
    exact ⟨⟨hread.works.change (.spectrum g c _ _ _ (spectrumFits_fit576 hx)), rfl, fun _ _ => id⟩, rfl⟩
  · rintro e t ⟨he, hread, ht⟩
    exact ⟨.of_seek hread ht, he⟩

/-- A part of a frame in main-data order: it decodes, or an error of class spectral stops it (R430). -/
theorem mainPart_wp {g : Gran} {c : Chan} {s : State} (hf : s.frmValid = true) (hc : chanLegal s.frm.nch c = true)
    (h0 : g = .g1 → s.mdst.get .g0 c ≠ .none) :
    (mainPart (g, c)).wp (fun _ t => Decodes s t ∧ t.mdst.get g c ≠ .none) (fun e t => Decodes s t ∧ SpectralErr e)
      s := by
  refine Act.wp_bind.2 (Act.wp_mono (scaleFactors_wp g c s) ?_ ?_)
  · rintro - t ⟨hst, -, hsf⟩
    have hft : t.frmValid = true := hst.frmValid.trans hf
    have hct : chanLegal t.frm.nch c = true := by rwa [hst.frm]
    have htu := setMdst_decodes (v := .sf) nofun hft hct (.inr hsf)
    refine Act.wp_bind.2 (Act.wp_bind.2 (Act.wp_mono (huffGranule_wp g c _) ?_ ?_))
    · rintro d u ⟨huv, hmdst⟩
      have hsv := (hst.trans htu).trans huv
      have hu : u.mdst.get g c ≠ .none := by
        rw [hmdst, setMdst_mdst, PerPart.get_set_self]
        exact nofun
      refine ⟨hsv.trans (setMdst_decodes nofun (hsv.frmValid.trans hf) (by rwa [hsv.frm]) (.inl hu)), ?_⟩
      rw [setMdst_mdst, PerPart.get_set_self]
      exact nofun
    · rintro e u ⟨htu', he⟩
      exact ⟨(hst.trans htu).trans htu', he⟩
  · rintro e t ⟨hst, he | ⟨-, hg, hnone⟩⟩
    · exact ⟨hst, he⟩
    · exact absurd hnone (h0 hg)

theorem mem_chans {nch : Nat} {c : Chan} : c ∈ chans nch ↔ chanLegal nch c = true := by
  unfold chans chanLegal
  cases c <;> split_ifs <;> simp_all

theorem mem_parts {nch : Nat} {q : Gran × Chan} : q ∈ parts nch ↔ q.2 ∈ chans nch := by
  obtain ⟨g, c⟩ := q
  cases g <;> simp [parts]

/-- A channel's part of granule 0 comes before its part of granule 1 (R167). -/
theorem parts_g0_before {nch : Nat} {c : Chan} {done rest : List (Gran × Chan)}
    (h : parts nch = done ++ (.g1, c) :: rest) : (.g0, c) ∈ done := by
  have hc : c ∈ chans nch := mem_parts.1 (show (.g1, c) ∈ parts nch by simp [h])
  have h0 : (.g0, c) ∈ (chans nch).map (fun c => (Gran.g0, c)) := List.mem_map_of_mem hc
  rcases List.append_eq_append_iff.1 h with ⟨l, rfl, -⟩ | ⟨l, hl, hr⟩
  · exact List.mem_append_left _ h0
  · cases l with
    | nil => rwa [hl, List.append_nil] at h0
    | cons q l =>
      obtain ⟨rfl, -⟩ := List.cons.inj hr
      have : (.g1, c) ∈ (chans nch).map (fun c => (Gran.g0, c)) := by simp [hl]
      simp at this

/-- All MainData can do on a current frame (R430): the frame's parts decoded, or an error of class spectral. -/
theorem mainData_wp {s : State} (hf : s.frmValid = true) :
    mainData.wp (fun _ t => Works s t ∧ t.mdValid = true) (fun e t => Decodes s t ∧ SpectralErr e) s := by
  refine Act.wp_bind.2 (Act.wp_mono (Act.wp_forEach (parts s.frm.nch)
    (fun done t => Decodes s t ∧ ∀ q ∈ done, t.mdst.get q.1 q.2 ≠ .none) ?_ ⟨.refl s, nofun⟩) ?_ fun _ _ h => h)
  · rintro done ⟨g, c⟩ rest hl t ⟨hst, hdone⟩
    have hq : (g, c) ∈ parts s.frm.nch := by simp [hl]
    have hc : chanLegal t.frm.nch c = true := by
      rw [hst.frm]
      exact mem_chans.1 (mem_parts.1 hq)
    refine Act.wp_mono (mainPart_wp (hst.frmValid.trans hf) hc fun hg => ?_) ?_ ?_
    · subst hg
      exact hdone _ (parts_g0_before hl)
    · rintro - u ⟨htu, hu⟩
      refine ⟨hst.trans htu, fun q hq => ?_⟩
      rcases List.mem_append.1 hq with hq | hq
      · exact htu.mdst _ _ (hdone q hq)
      · rw [List.mem_singleton.1 hq]; exact hu
    · rintro e u ⟨htu, he⟩
      exact ⟨hst.trans htu, he⟩
  · rintro ds t ⟨hst, hall⟩
    have hvalid : Change t { t with mdValid := true } := .mdValid (hst.frmValid.trans hf) (by rwa [hst.frm])
    exact ⟨((hst.works.change hvalid).change (.outMaindata _)).trans (emitDiag_works _ _), emitDiag_mdValid _ _⟩

end Sys2Proof.Machine

/-! # The state family, part 4: every step as a row of changes -/

namespace Sys2Proof.Machine

open Sys2Proof.Safety

/-! ## The DSP stages -/

/-- What a stage on the frame does: changes that leave the frame and MD_VALID alone. -/
structure Chains (s t : State) : Prop where
  works : Works s t
  frm : t.frm = s.frm
  mdValid : t.mdValid = s.mdValid

theorem Chains.refl (s : State) : Chains s s := ⟨.refl s, rfl, rfl⟩

theorem Chains.trans {s t u : State} (h : Chains s t) (h' : Chains t u) : Chains s u :=
  ⟨h.works.trans h'.works, h'.frm.trans h.frm, h'.mdValid.trans h.mdValid⟩

theorem stageDone_chains {g : Gran} {c : Chan} {t : Tag} {x : List XReal} {s : State} (ho : StageOpen s g c)
    (hx : (s.xr.get g c).length = 576 → x.length = 576) : Chains s (stageDone g c t x s) :=
  ⟨(Change.stage g c t x ho hx).works, by rw [stageDone_eq], by rw [stageDone_eq]⟩

theorem requant_chains {g : Gran} {c : Chan} {s : State} (ho : StageOpen s g c) : Chains s (requant g c s) :=
  stageDone_chains ho fun _ => table_length _ _

theorem reorder_chains {g : Gran} {c : Chan} {s : State} (ho : StageOpen s g c) : Chains s (reorder g c s) :=
  stageDone_chains ho fun _ => table_length _ _

theorem antialias_chains {g : Gran} {c : Chan} {s : State} (ho : StageOpen s g c) : Chains s (antialias g c s) :=
  stageDone_chains ho fun _ => table_length _ _

theorem freqInv_chains {g : Gran} {c : Chan} {s : State} (ho : StageOpen s g c) : Chains s (freqInv g c s) :=
  stageDone_chains ho fun _ => table_length _ _

theorem hybridTail_sized (shape : Shape) (bt : BitVec 2) (x : List XReal) : OvlSized (hybridTail shape bt x) := by
  refine ⟨table_length _ _, fun r hr => ?_⟩
  simp only [hybridTail, table, List.mem_map] at hr
  obtain ⟨sb, -, rfl⟩ := hr
  simp

theorem hybrid_chains {g : Gran} {c : Chan} {s : State} (ho : StageOpen s g c) : Chains s (hybrid g c s) := by
  have hovl := Change.overlap (s := s) c _
    (hybridTail_sized (partShape s g c) (partInfo s g c).blockType (s.xr.get g c))
  exact Chains.trans ⟨hovl.works, rfl, rfl⟩ (stageDone_chains ho fun _ => table_length _ _)

theorem pushV_sized {vh : List (List XReal)} (h : VhSized vh) {v : List XReal} (hv : v.length = 64) :
    VhSized (pushV vh v) := by
  refine ⟨by simp [pushV, h.1], fun r hr => ?_⟩
  rcases List.mem_cons.1 hr with rfl | hr
  · exact hv
  · exact h.2 r (List.mem_of_mem_take hr)

theorem synthFrom_sized (mask : Word) (x : List XReal) (l : List Nat) {vh : List (List XReal)} (h : VhSized vh) :
    VhSized (synthFrom mask x l vh).1 := by
  induction l generalizing vh with
  | nil => exact h
  | cons ss l ih => exact ih (pushV_sized h (table_length _ _))

theorem synthFrom_length (mask : Word) (x : List XReal) (l : List Nat) (vh : List (List XReal)) :
    (synthFrom mask x l vh).2.length = 32 * l.length := by
  induction l generalizing vh with
  | nil => rfl
  | cons ss l ih =>
    simp only [synthFrom, List.length_append, windowSum, table_length, ih, List.length_cons]
    omega

theorem synth_chains {g : Gran} {c : Chan} {s : State} (ho : StageOpen s g c) : Chains s (synth g c s) := by
  have hlen : (synthFrom s.bandMask (s.xr.get g c) (List.range 18) (s.vh.get c)).2.length = 576 := by
    rw [synthFrom_length, List.length_range]
  have hvh : Change s _ := .history c _ (synthFrom_sized s.bandMask (s.xr.get g c) (List.range 18))
  have hpcm := hvh.works.change (.outPcm c
    ((synthFrom s.bandMask (s.xr.get g c) (List.range 18) (s.vh.get c)).2.map (clipped s.cfg.pcmClip))
    (by rw [List.length_map, hlen]))
  exact Chains.trans ⟨hpcm, rfl, rfl⟩ (stageDone_chains ho fun _ => hlen)

theorem stereoLines_length {s : State} {g : Gran} {c : Chan} (h : (s.xr.get g c).length = 576) :
    (stereoLines s g c).length = 576 := by
  unfold stereoLines
  split
  · cases c <;> exact table_length _ _
  · exact h

theorem stereo_chains {g : Gran} {s : State} (ho : ∀ c ∈ chans s.frm.nch, StageOpen s g c) : Chains s (stereo g s) := by
  have h0 : StageOpen s g .c0 := ho .c0 (mem_chans.2 rfl)
  have hfst := stageDone_chains (t := .stereo) h0 stereoLines_length
  by_cases hn : s.frm.nch = 1
  · simpa [stereo, chans, hn] using hfst
  · have hne : (g, Chan.c1) ≠ (g, Chan.c0) := by simp
    have h1 : StageOpen (stageDone g .c0 .stereo (stereoLines s g .c0) s) g .c1 := by
      have := ho .c1 (mem_chans.2 (by simpa [chanLegal] using hn))
      rw [stageDone_eq]
      simpa only [StageOpen, PerPart.get_set_ne _ _ hne] using this
    have hsnd := stageDone_chains (t := .stereo) (x := stereoLines s g .c1) h1 fun hx => stereoLines_length <| by
      rw [stageDone_eq] at hx
      simpa only [PerPart.get_set_ne _ _ hne] using hx
    simpa [stereo, chans, hn] using hfst.trans hsnd

/-- The chain may run on a frame whose parts are all decoded, and it goes on being one (R625). -/
theorem Chains.stageOpen {s t : State} (h : Chains s t) (hv : s.mdValid = true) {c : Chan} (hc : c ∈ chans s.frm.nch)
    (g : Gran) : StageOpen t g c :=
  .inr (.inr ⟨h.mdValid.trans hv, mem_parts.2 (by rwa [h.frm])⟩)

/-- A stage run for the channels of the frame in order. -/
theorem foldl_chains {f : State → Chan → State} {l : List Chan} {s t : State} (hst : Chains s t)
    (hf : ∀ c ∈ l, ∀ u, Chains s u → Chains u (f u c)) : Chains s (l.foldl f t) := by
  induction l generalizing t with
  | nil => exact hst
  | cons c l ih =>
    exact ih (hst.trans (hf c (by simp) t hst)) fun d hd => hf d (by simp [hd])

theorem reconstructGran_chains {g : Gran} {s : State} (hv : s.mdValid = true) : Chains s (reconstructGran g s) := by
  have hbefore : Chains s ((chans s.frm.nch).foldl (stagesBefore g) s) :=
    foldl_chains (.refl s) fun c hc u hu =>
      have hreq := requant_chains (hu.stageOpen hv hc g)
      hreq.trans (reorder_chains ((hu.trans hreq).stageOpen hv hc g))
  have hstereo := hbefore.trans (stereo_chains (g := g) fun c hc => hbefore.stageOpen hv (by rwa [hbefore.frm] at hc) g)
  exact foldl_chains hstereo fun c hc u hu =>
    have haa := antialias_chains (hu.stageOpen hv hc g)
    have hhyb := haa.trans (hybrid_chains ((hu.trans haa).stageOpen hv hc g))
    have hfi := hhyb.trans (freqInv_chains ((hu.trans hhyb).stageOpen hv hc g))
    hfi.trans (synth_chains ((hu.trans hfi).stageOpen hv hc g))

theorem reconstruct_chains {s : State} (hv : s.mdValid = true) : Chains s (reconstruct s) :=
  have h0 := reconstructGran_chains (g := .g0) hv
  h0.trans (reconstructGran_chains (h0.mdValid.trans hv))

/-! ## The sequencer -/

/-- A frame step (R205): its errors are of the classes it records them with. -/
theorem frameStep_reaches (opc : BitVec 8) {r : Frame} {s : State} (hr : TablesOk s.cfg → FrameOk s.cfg r) :
    Reaches opc s (frameStep r opc s) ∧ (frameStep r opc s).frmValid = true := by
  have hcommit : Reaches opc s (commitFrame r s) := (Change.commit r hr).works.reaches opc
  have hvalid : (commitFrame r s).frmValid = true := rfl
  suffices H : Reaches opc (commitFrame r s) (frameStep r opc s) from ⟨hcommit.trans H, H.frmValid hvalid⟩
  unfold frameStep
  rcases resolve_cases (commitFrame r s) with ⟨-, hres⟩ | ⟨-, hres⟩
  · rw [hres]
    exact (((Reaches.refl opc _).change .histPush).record .reservoirInsufficient false).change (.ckptInfo _)
  · rw [hres]
    dsimp only
    have hpush := (Change.resolve _ hvalid hres).works.change .histPush
    rcases Act.wp_cases (mainData_wp ((hpush.reaches opc).frmValid hvalid)) with
      ⟨_, u, hmain, hw, hv⟩ | ⟨e, u, hmain, hdec, he⟩ <;> rw [hmain]
    · exact (((hpush.trans hw).trans (reconstruct_chains hv).works).change (.ckptInfo none)).reaches opc
    · have hrec := ((hpush.trans hdec.works).reaches opc).record e true
      rw [show e.cls true = .spectral from he] at hrec
      exact hrec.change (.ckptInfo _)

/-- A frame attempt (R204): where it finds a frame, there is a current one. -/
theorem frameAttempt_reaches (opc : BitVec 8) (s : State) :
    Reaches opc s (frameAttempt opc s).2 ∧
      ((frameAttempt opc s).1 = .frame → (frameAttempt opc s).2.frmValid = true) := by
  unfold frameAttempt
  rcases Act.wp_cases (onReader_wp (r := .inp) (f := fun src => findByte src 0xFF) (s := s)
    (findByte_reads (C := StreamErr) _)) with ⟨j, t, hfind, -, hst, -⟩ | ⟨e, t, hfind, -, hst, -⟩ <;> rw [hfind]
  · cases j with
    | none => exact ⟨hst.works.reaches opc, nofun⟩
    | some j =>
      dsimp only
      rcases Act.wp_cases (onReader_wp (r := .inp) (s := t) (parseFrame_reads t.cfg)) with
        ⟨r, u, hparse, hr, htu, p, rfl⟩ | ⟨e, u, hparse, he, htu, -⟩ <;> rw [hparse]
      · have hstep := frameStep_reaches opc (s := setPos t .inp p) hr
        exact ⟨((hst.works.change htu).reaches opc).trans hstep.1, fun _ => hstep.2⟩
      · have hrec := ((hst.works.change htu).reaches opc).record e false
        rw [show e.cls false = .stream from he] at hrec
        exact ⟨hrec.change (.seek .inp _ nofun), nofun⟩
  · exact ⟨hst.works.reaches opc, nofun⟩

theorem sequencerStep_reaches {s : State} (hm : s.mode = .running) :
    ∃ u, Reaches 0x02 s u ∧ ModeChange u (sequencerStep s) := by
  obtain ⟨hreach, hframe⟩ := frameAttempt_reaches 0x02 s
  unfold sequencerStep
  rcases hatt : frameAttempt 0x02 s with ⟨a, t⟩
  rw [hatt] at hreach hframe
  cases a with
  | resync => exact ⟨t, hreach, .stay⟩
  | frame => exact ⟨t, hreach, .checkpoint (hreach.mode.trans hm) (hframe rfl)⟩
  | finished => exact ⟨t, hreach, .finish⟩

theorem stepLoop_reaches (n : Nat) (s : State) : ∃ u, Reaches 0x03 s u ∧ ModeChange u (stepLoop n s) := by
  induction n generalizing s with
  | zero => exact ⟨_, (Reaches.refl _ s).change (.results _ _), .finish⟩
  | succ n ih =>
    obtain ⟨hreach, -⟩ := frameAttempt_reaches 0x03 s
    unfold stepLoop
    rcases hatt : frameAttempt 0x03 s with ⟨a, t⟩
    rw [hatt] at hreach
    cases a with
    | resync =>
      obtain ⟨u, hu, hmode⟩ := ih t
      exact ⟨u, hreach.trans hu, hmode⟩
    | frame => exact ⟨_, (hreach.change (.results _ _)).change (.interrupt irqCkpt (by decide)), .stay⟩
    | finished => exact ⟨_, hreach.change (.results _ _), .finish⟩

theorem stepFrame_reaches (s : State) : ∃ u, Reaches 0x03 s u ∧ ModeChange u (stepFrame s) := by
  unfold stepFrame
  split
  · exact ⟨_, (Reaches.refl _ s).change (.results _ _), .stay⟩
  · exact stepLoop_reaches _ s

end Sys2Proof.Machine

/-! # The state family, part 5: the bodies of the commands

Each body is taken apart once, for two facts: it is a row of changes, and where it fails it leaves everything but the
readers' positions (and, in MAINDATA, the decoded parts) alone, whatever IRQ_STATUS holds (R620). -/

namespace Sys2Proof.Machine

open Sys2Proof.Safety

/-! ## Failures -/

/-- The state with IRQ_STATUS at `q`. -/
def withIrq (q : BitVec 3) (s : State) : State := { s with irqStatus := q }

/-- Nothing but the readers' positions moved and, with `md`, the decoded parts (R430, R620). -/
structure MovedOnly (md : Bool) (s t : State) : Prop where
  frame : t = { s with inPos := t.inPos, mdPos := t.mdPos, md := t.md, mdst := t.mdst }
  parts : md = false → t.md = s.md ∧ t.mdst = s.mdst

theorem MovedOnly.refl (md : Bool) (s : State) : MovedOnly md s s := ⟨rfl, fun _ => ⟨rfl, rfl⟩⟩

theorem MovedOnly.trans {md : Bool} {s t u : State} (h : MovedOnly md s t) (h' : MovedOnly md t u) : MovedOnly md s u :=
  ⟨by rw [h'.frame, h.frame], fun hmd => by
    rw [(h'.parts hmd).1, (h'.parts hmd).2]
    exact h.parts hmd⟩

theorem setPos_movedOnly (md : Bool) (s : State) (r : Reader) (p : Nat) : MovedOnly md s (setPos s r p) := by
  cases r <;> exact ⟨rfl, fun _ => ⟨rfl, rfl⟩⟩

/-- `x` ends the same way whatever IRQ_STATUS holds, leaves it, and moves no more than positions (and parts). -/
def Blind {α : Type} (md : Bool) (x : Cmd α) : Prop :=
  ∀ q s, x.wp (fun a t => x (withIrq q s) = .ok a (withIrq q t) ∧ MovedOnly md s t)
    (fun e t => x (withIrq q s) = .err e (withIrq q t) ∧ MovedOnly md s t) s

/-- `x` succeeds or fails whatever IRQ_STATUS holds, and where it fails it moves no more than positions (and parts). -/
def Fails {α : Type} (md : Bool) (x : Cmd α) : Prop :=
  ∀ q s, x.wp (fun _ _ => ∃ a t, x (withIrq q s) = .ok a t)
    (fun e t => x (withIrq q s) = .err e (withIrq q t) ∧ MovedOnly md s t) s

section
variable {α β ι : Type} {md : Bool}

theorem Blind.fails {x : Cmd α} (h : Blind md x) : Fails md x := fun q s =>
  Act.wp_mono (h q s) (fun _ _ ht => ⟨_, _, ht.1⟩) fun _ _ ht => ht

theorem Blind.pure (a : α) : Blind md (Act.pure a) := fun _ s => ⟨rfl, .refl md s⟩

theorem Blind.need {p : State → Bool} (hp : ∀ q s, p (withIrq q s) = p s) (e : Err) : Blind md (Act.need p e) :=
  fun q s => Act.wp_need (fun h => ⟨Act.need_of_true ((hp q s).trans h), .refl md s⟩)
    fun h => ⟨Act.need_of_false ((hp q s).trans h), .refl md s⟩

theorem Blind.modify {f : State → State} (hf : ∀ q s, f (withIrq q s) = withIrq q (f s))
    (hm : ∀ s, MovedOnly md s (f s)) : Blind md (Act.modify f) := fun q s =>
  ⟨by rw [Act.modify_apply, hf], hm s⟩

theorem Blind.onReader (r : Reader) (f : Src → Rd α) : Blind md (onReader r f) := by
  intro q s
  have hsrc : src (withIrq q s) r = src s r := by cases r <;> rfl
  have hpos : readerPos (withIrq q s) r = readerPos s r := by cases r <;> rfl
  have hset : ∀ p, setPos (withIrq q s) r p = withIrq q (setPos s r p) := fun p => by cases r <;> rfl
  rcases onReader_cases r f s with ⟨a, p, hf, ho⟩ | ⟨e, p, hf, ho⟩
  · rw [← hsrc, ← hpos] at hf
    exact (Act.wp_of_ok ho).2 ⟨by rw [onReader_ok hf, hset], setPos_movedOnly md s r p⟩
  · rw [← hsrc, ← hpos] at hf
    exact (Act.wp_of_err ho).2 ⟨by rw [onReader_err hf, hset], setPos_movedOnly md s r p⟩

theorem Blind.bind {x : Cmd α} {f : α → Cmd β} (hx : Blind md x) (hf : ∀ a, Blind md (f a)) : Blind md (x.bind f) := by
  intro q s
  refine Act.wp_bind.2 (Act.wp_mono (hx q s) (fun a t ⟨ht, hst⟩ => ?_) fun e t ⟨ht, hst⟩ => ⟨Act.bind_of_err ht, hst⟩)
  rw [Act.bind_of_ok ht]
  exact Act.wp_mono (hf a q t) (fun _ _ hu => ⟨hu.1, hst.trans hu.2⟩) fun _ _ hu => ⟨hu.1, hst.trans hu.2⟩

theorem Fails.bind {x : Cmd α} {f : α → Cmd β} (hx : Blind md x) (hf : ∀ a, Fails md (f a)) : Fails md (x.bind f) := by
  intro q s
  refine Act.wp_bind.2 (Act.wp_mono (hx q s) (fun a t ⟨ht, hst⟩ => ?_) fun e t ⟨ht, hst⟩ => ⟨Act.bind_of_err ht, hst⟩)
  rw [Act.bind_of_ok ht]
  exact Act.wp_mono (hf a q t) (fun _ _ hu => hu) fun _ _ hu => ⟨hu.1, hst.trans hu.2⟩

/-- A part that takes up the state and uses nothing of IRQ_STATUS. -/
theorem Blind.get_bind {f : State → Cmd α} (hf : ∀ q s, f (withIrq q s) = f s) (h : ∀ s, Blind md (f s)) :
    Blind md (Act.get.bind f) := by
  intro q s
  have hget : (Act.get.bind f) (withIrq q s) = f s (withIrq q s) := by rw [← hf q s]; rfl
  rw [hget]
  exact h s q s

theorem Fails.get_bind {f : State → Cmd α} (hf : ∀ q s, f (withIrq q s) = f s) (h : ∀ s, Fails md (f s)) :
    Fails md (Act.get.bind f) := by
  intro q s
  have hget : (Act.get.bind f) (withIrq q s) = f s (withIrq q s) := by rw [← hf q s]; rfl
  rw [hget]
  exact h s q s

theorem Fails.modify (f : State → State) : Fails md (Act.modify f) := fun _ _ => ⟨_, _, rfl⟩

/-- What comes after `x` cannot fail, so only a failure of `x` counts. -/
theorem Fails.bind_modify {x : Cmd α} (hx : Fails md x) (f : α → State → State) :
    Fails md (x.bind fun a => Act.modify (f a)) := by
  intro q s
  refine Act.wp_bind.2 (Act.wp_mono (hx q s) ?_ fun e t ⟨ht, hst⟩ => ⟨Act.bind_of_err ht, hst⟩)
  rintro a - ⟨b, u, hu⟩
  exact ⟨(), f b u, by rw [Act.bind_of_ok hu]; rfl⟩

theorem Blind.forEach {f : ι → Cmd α} (hf : ∀ i, Blind md (f i)) (l : List ι) : Blind md (Act.forEach f l) := by
  induction l with
  | nil => exact .pure _
  | cons i l ih => exact (hf i).bind fun a => ih.bind fun as => .pure _

end

/-! ## Main data -/

theorem scaleFactors_blind (g : Gran) (c : Chan) : Blind true (scaleFactors g c) := by
  intro q s
  refine Blind.bind (.need (fun _ _ => rfl) _) (fun _ => .bind (.need (fun _ _ => rfl) _) fun _ => ?_) q s
  refine .bind (.onReader _ _) fun _ => .get_bind (fun _ _ => rfl) fun a => .bind (.onReader _ _) fun sf => ?_
  exact .modify (fun _ _ => rfl) fun _ => ⟨rfl, nofun⟩

theorem scaleFactors_fails (md : Bool) (g : Gran) (c : Chan) : Fails md (scaleFactors g c) := by
  intro q s
  refine Fails.bind (.need (fun _ _ => rfl) _) (fun _ => .bind (.need (fun _ _ => rfl) _) fun _ => ?_) q s
  exact .bind (.onReader _ _) fun _ => .get_bind (fun _ _ => rfl) fun a => .bind (.onReader _ _) fun sf => .modify _

theorem huffGranule_blind (g : Gran) (c : Chan) : Blind true (huffGranule g c) := by
  intro q s
  refine Blind.bind (.onReader _ _) (fun x => ?_) q s
  exact fun _ _ => ⟨rfl, rfl, nofun⟩

theorem huffGranule_fails (md : Bool) (g : Gran) (c : Chan) : Fails md (huffGranule g c) := by
  intro q s
  refine Fails.bind (.onReader _ _) (fun x => ?_) q s
  exact fun _ _ => ⟨_, _, rfl⟩

theorem mainPart_blind (q : Gran × Chan) : Blind true (mainPart q) := by
  refine .bind (scaleFactors_blind _ _) fun _ => .bind (.modify (fun _ _ => rfl) fun _ => ⟨rfl, nofun⟩) fun _ => ?_
  refine .bind (huffGranule_blind _ _) fun d => .bind (.modify (fun _ _ => rfl) fun _ => ⟨rfl, nofun⟩) fun _ => ?_
  exact .pure d

theorem mainData_fails : Fails true mainData := by
  intro q s
  exact Fails.bind (.forEach mainPart_blind _) (fun ds => .modify _) q s

theorem resolve_fails (md : Bool) : Fails md resolve := by
  intro q s
  rcases resolve_cases s with ⟨hk, h⟩ | ⟨hk, h⟩
  · refine (Act.wp_of_err h).2 ⟨?_, .refl md s⟩
    rcases resolve_cases (withIrq q s) with ⟨-, h'⟩ | ⟨hk', -⟩
    · exact h'
    · exact absurd hk' (Nat.not_le.2 hk)
  · refine (Act.wp_of_ok h).2 ?_
    rcases resolve_cases (withIrq q s) with ⟨hk', -⟩ | ⟨-, h'⟩
    · exact absurd hk (Nat.not_le.2 hk')
    · exact ⟨_, _, h'⟩

/-! ## Bodies -/

/-- The body of a command, run where `P` holds, is a row of changes, and it fails as R620 says. -/
structure UnitBody (md : Bool) (P : State → Prop) (body : Cmd Unit) : Prop where
  works : ∀ s, P s → body.wp (fun _ t => Works s t) (fun _ t => Works s t) s
  fails : Fails md body

section
variable {md : Bool} {P : State → Prop}

theorem UnitBody.modify {f : State → State} (h : ∀ s, P s → Works s (f s)) : UnitBody md P (Act.modify f) :=
  ⟨h, .modify f⟩

theorem UnitBody.need {p : State → Bool} {e : Err} {body : Cmd Unit} (hp : ∀ q s, p (withIrq q s) = p s)
    (h : UnitBody md (fun s => P s ∧ p s = true) body) : UnitBody md P ((Act.need p e).bind fun _ => body) where
  works s hs := Act.wp_bind.2 (Act.wp_need (fun hps => h.works s ⟨hs, hps⟩) fun _ => .refl s)
  fails := .bind (.need hp e) fun _ => h.fails

/-- A read, whose answer only the rest of the body can use. -/
theorem UnitBody.read {α : Type} {r : Reader} {f : Src → Rd α} {V : α → Prop} {C : Err → Prop}
    {g : α → State → State} (hf : ∀ src, Reads src V C (f src))
    (hg : ∀ a s p, P s → V a → Works (setPos s r p) (g a (setPos s r p))) :
    UnitBody md P ((onReader r f).bind fun a => Act.modify (g a)) where
  works s hs := by
    refine Act.wp_bind.2 (Act.wp_mono (onReader_wp (hf _)) ?_ fun _ _ ht => ht.2.1.works)
    rintro a t ⟨ha, hread, p, rfl⟩
    exact hread.works.trans (hg a s p hs ha)
  fails := .bind (.onReader r f) fun a => .modify (g a)

/-- A read whose answer goes to the result registers only (R37). -/
theorem UnitBody.readResults {α : Type} {r : Reader} {f : Src → Rd α} {V : α → Prop} {C : Err → Prop}
    {v w : α → State → Word} (hf : ∀ src, Reads src V C (f src)) :
    UnitBody md P ((onReader r f).bind fun a => Act.modify fun s => setResults (v a s) (w a s) s) :=
  .read hf fun _ _ _ _ _ => (Change.results _ _).works

theorem UnitBody.needFrame {body : Cmd Unit} (h : UnitBody md (fun s => P s ∧ s.frmValid = true) body) :
    UnitBody md P (needFrame.bind fun _ => body) := .need (fun _ _ => rfl) h

theorem UnitBody.needPart {c : Chan} {body : Cmd Unit}
    (h : UnitBody md (fun s => (P s ∧ s.frmValid = true) ∧ chanLegal s.frm.nch c = true) body) :
    UnitBody md P ((needPart c).bind fun _ => body) := by
  rw [Machine.needPart, Act.bind_assoc]
  exact .needFrame (.need (fun _ _ => rfl) h)

/-- A stage of one part whose precondition makes the part open to it. -/
theorem UnitBody.stage {g : Gran} {c : Chan} {p : State → Bool} {f : State → State}
    (hp : ∀ q s, p (withIrq q s) = p s) (ho : ∀ s, p s = true → StageOpen s g c)
    (hf : ∀ s, StageOpen s g c → Chains s (f s)) :
    UnitBody md P ((Machine.needPart c).bind fun _ => (needStage p).bind fun _ => Act.modify f) :=
  .needPart (.need hp (.modify fun s hs => (hf s (ho s hs.2)).works))

/-- A part tagged by an earlier stage is open to the next. -/
theorem stageOpen_of_tag {g : Gran} {c : Chan} {t : Tag} (ht : t ≠ .none) (s : State)
    (h : decide (s.tag.get g c = t) = true) : StageOpen s g c :=
  .inr (.inl (by rwa [of_decide_eq_true h]))

theorem resolve_body : UnitBody md P (needFrame.bind fun _ => resolve.bind fun _ => Act.modify fun s =>
    setResults (wordOfNat s.mdbuf.length) (s.frm.si.mainDataEnd.zeroExtend 32) s) := by
  refine .needFrame ⟨fun s ⟨_, hf⟩ => Act.wp_bind.2 ?_, .bind_modify (resolve_fails md) _⟩
  unfold Act.wp
  rcases resolve_cases s with ⟨-, h⟩ | ⟨-, h⟩ <;> rw [h]
  · exact .refl s
  · exact (Change.resolve _ hf h).works.change (.results _ _)

theorem scalefac_works {g : Gran} {c : Chan} {s : State} (hf : s.frmValid = true) (hc : chanLegal s.frm.nch c = true) :
    ((scaleFactors g c).bind fun _ => Act.modify fun s =>
      setResults (wordOfNat (s.md.get g c).p2len) (wordOfNat s.mdPos) (setMdst g c .sf s)).wp
      (fun _ t => Works s t) (fun _ t => Works s t) s := by
  refine Act.wp_bind.2 (Act.wp_mono (scaleFactors_wp g c s) (fun _ t ⟨hst, _, hsf⟩ => ?_) fun _ _ ht => ht.1.works)
  have hdec := setMdst_decodes (v := .sf) nofun (hst.frmValid.trans hf) (by rwa [hst.frm]) (.inr hsf)
  exact (hst.works.trans hdec.works).change (.results _ _)

theorem huffGranule_works {g : Gran} {c : Chan} {s : State} (hf : s.frmValid = true)
    (hc : chanLegal s.frm.nch c = true) (hd : s.mdst.get g c ≠ .none) :
    ((huffGranule g c).bind fun d => Act.modify fun s =>
      let t := emitDiag [d] (setMdst g c .huf s)
      setResults (wordOfNat (t.md.get g c).zpb) (wordOfNat (t.md.get g c).count1) t).wp
      (fun _ t => Works s t) (fun _ t => Works s t) s := by
  refine Act.wp_bind.2 (Act.wp_mono (huffGranule_wp g c s) (fun d t ⟨hst, hmdst⟩ => ?_) fun _ _ ht => ht.1.works)
  have hdec := setMdst_decodes (v := .huf) nofun (hst.frmValid.trans hf) (by rwa [hst.frm]) (.inl (by rwa [hmdst]))
  exact ((hst.works.trans hdec.works).trans (emitDiag_works _ _)).change (.results _ _)

theorem maindata_works {s : State} (hf : s.frmValid = true) :
    (mainData.bind fun _ => Act.modify fun s => setResults (wordOfNat (2 * s.frm.nch)) (wordOfNat s.mdPos) s).wp
      (fun _ t => Works s t) (fun _ t => Works s t) s :=
  Act.wp_bind.2 (Act.wp_mono (mainData_wp hf) (fun _ _ ht => ht.1.change (.results _ _)) fun _ _ ht => ht.1.works)

end

/-- The commands whose bodies are not rows of changes: they restart the block or change its run state. -/
def IsRunControl : Instr → Prop
  | .reset | .run | .step | .reply => True
  | _ => False

/-- Every command but the run control: its body, the same whatever IRQ_STATUS holds. -/
theorem exec_body (i : Instr) (hi : ¬ IsRunControl i) (s : State) : ∃ main body,
    exec i s = command i.opcode main body s ∧
      (∀ q, exec i (withIrq q s) = command i.opcode main body (withIrq q s)) ∧
      UnitBody (decide (i = .maindata)) (fun t => t.cfg = s.cfg) body := by
  cases i with
  | reset | run | step | reply => exact absurd trivial hi
  | nop =>
    unfold exec execNop
    refine ⟨_, _, rfl, fun _ => rfl, ?_⟩
    exact ⟨fun s _ => Works.refl s, (Blind.pure ()).fails⟩
  | brReadBits r n =>
    unfold exec execBrReadBits
    refine ⟨_, _, rfl, fun _ => rfl, ?_⟩
    exact .need (fun _ _ => rfl) (.readResults fun _ => bitRead_reads (C := fun _ => True) _ trivial)
  | brReadBytes r =>
    unfold exec execBrReadBytes
    refine ⟨_, _, rfl, fun _ => rfl, ?_⟩
    exact .read (fun _ => byteRead_reads (C := fun _ => True) _ trivial trivial) fun b _ _ _ _ =>
      (Change.outBytes b).works.change (.results _ _)
  | brSeek r =>
    unfold exec execBrSeek
    refine ⟨_, _, rfl, fun _ => rfl, ?_⟩
    exact .readResults fun _ => seekTo_reads (C := fun _ => True) _
  | brFindByte r =>
    unfold exec execBrFindByte
    refine ⟨_, _, rfl, fun _ => rfl, .read (fun _ => findByte_reads (C := fun _ => True) _) fun j _ _ _ _ => ?_⟩
    cases j <;> exact (Change.found _).works.change (.results _ _)
  | brTell r =>
    unfold exec execBrTell
    refine ⟨_, _, rfl, fun _ => rfl, ?_⟩
    exact .modify fun _ _ => (Change.results _ _).works
  | brEof r =>
    unfold exec execBrEof
    refine ⟨_, _, rfl, fun _ => rfl, ?_⟩
    exact .modify fun _ _ => (Change.results _ _).works
  | parseHeader =>
    unfold exec execParseHeader
    refine ⟨_, _, rfl, fun _ => rfl, ?_⟩
    exact .readResults fun _ => parseHeader_reads
  | parseSideinfo =>
    unfold exec execParseSideinfo
    refine ⟨_, _, rfl, fun _ => rfl, ?_⟩
    exact .readResults fun _ => parseSideInfo_reads _
  | parseFrame =>
    unfold exec execParseFrame
    refine ⟨_, _, rfl, fun _ => rfl, ?_⟩
    refine .read (fun _ => parseFrame_reads _) fun r t p (ht : t.cfg = s.cfg) hr => ?_
    have hcommit : Change (setPos t .inp p) _ := .commit r (by rwa [setPos_inp_cfg, ht])
    exact hcommit.works.change (.results _ _)
  | resolve =>
    unfold exec execResolve
    refine ⟨_, _, rfl, fun _ => rfl, ?_⟩
    exact resolve_body
  | histPush =>
    unfold exec execHistPush
    refine ⟨_, _, rfl, fun _ => rfl, ?_⟩
    exact .needFrame (.modify fun s _ => Change.histPush.works.change (.results _ _))
  | huffPair =>
    unfold exec execHuffPair
    refine ⟨_, _, rfl, fun _ => rfl, ?_⟩
    exact .readResults fun _ => huffPair_reads _
  | huffQuad =>
    unfold exec execHuffQuad
    refine ⟨_, _, rfl, fun _ => rfl, ?_⟩
    exact .readResults fun _ => huffQuad_reads _
  | huffGranule g c =>
    unfold exec execHuffGranule
    refine ⟨_, _, rfl, fun _ => rfl, .needPart (.need (fun _ _ => rfl)
      ⟨fun s ⟨⟨⟨_, hf⟩, hc⟩, hp⟩ => huffGranule_works hf hc ?_, .bind_modify (huffGranule_fails _ g c) _⟩)⟩
    exact of_decide_eq_true (Bool.and_eq_true_iff.1 hp).2
  | scalefac g c =>
    unfold exec execScalefac
    exact ⟨_, _, rfl, fun _ => rfl, .needPart (.need (fun _ _ => rfl)
      ⟨fun s ⟨⟨⟨_, hf⟩, hc⟩, _⟩ => scalefac_works hf hc, .bind_modify (scaleFactors_fails _ g c) _⟩)⟩
  | maindata =>
    unfold exec execMaindata
    exact ⟨_, _, rfl, fun _ => rfl, .needFrame (.need (fun _ _ => rfl)
      ⟨fun s ⟨⟨_, hf⟩, _⟩ => maindata_works hf, .bind_modify mainData_fails _⟩)⟩
  | requant g c =>
    unfold exec execRequant
    refine ⟨_, _, rfl, fun _ => rfl, .stage (fun _ _ => rfl) (fun s h => .inl ?_) fun _ => requant_chains⟩
    rw [of_decide_eq_true h]
    exact nofun
  | reorder g c =>
    unfold exec execReorder
    exact ⟨_, _, rfl, fun _ => rfl, .stage (fun _ _ => rfl) (stageOpen_of_tag (by decide)) fun _ => reorder_chains⟩
  | stereo g =>
    unfold exec execStereo
    refine ⟨_, _, rfl, fun _ => rfl,
      .needFrame (.need (fun _ _ => rfl) (.modify fun s ⟨_, h⟩ => (stereo_chains fun c hc => ?_).works))⟩
    exact stageOpen_of_tag (t := .reord) (by decide) s (List.all_eq_true.1 h c hc)
  | antialias g c =>
    unfold exec execAntialias
    exact ⟨_, _, rfl, fun _ => rfl, .stage (fun _ _ => rfl) (stageOpen_of_tag (by decide)) fun _ => antialias_chains⟩
  | hybrid g c =>
    unfold exec execHybrid
    exact ⟨_, _, rfl, fun _ => rfl, .stage (fun _ _ => rfl) (stageOpen_of_tag (by decide)) fun _ => hybrid_chains⟩
  | freqinv g c =>
    unfold exec execFreqinv
    exact ⟨_, _, rfl, fun _ => rfl, .stage (fun _ _ => rfl) (stageOpen_of_tag (by decide)) fun _ => freqInv_chains⟩
  | synth g c =>
    unfold exec execSynth
    exact ⟨_, _, rfl, fun _ => rfl, .stage (fun _ _ => rfl) (stageOpen_of_tag (by decide)) fun _ => synth_chains⟩
  | reconstruct =>
    unfold exec execReconstruct
    refine ⟨_, _, rfl, fun _ => rfl, .needFrame (.need (fun _ _ => rfl) (.modify fun s ⟨_, h⟩ => ?_))⟩
    exact (reconstruct_chains (Bool.and_eq_true_iff.1 h).1).works.change (.results _ _)

end Sys2Proof.Machine

/-! # The state family, part 6: what one step can do -/

namespace Sys2Proof.Machine

open Sys2Proof.Safety

/-- A command whose body is a row of changes: itself a row of changes and records under its opcode. -/
theorem command_reaches {opc : BitVec 8} {main : Bool} {body : Cmd Unit} {s t : State}
    (hw : body.wp (fun _ u => Works s u) (fun _ u => Works s u) s) (h : command opc main body s = .next t) :
    Reaches opc s t := by
  rcases command_cases opc main body s with ⟨-, h'⟩ | ⟨-, u, hu, h'⟩ | ⟨-, e, u, hu, h'⟩ <;> rw [h'] at h <;>
    injection h with h <;> subst h
  · exact (Reaches.refl opc s).record .busy false
  · exact ((Act.wp_of_ok hu).1 hw).reaches opc
  · exact (((Act.wp_of_err hu).1 hw).reaches opc).record e main

/-- A command whose body is one change of the state: Busy, or that change. -/
theorem command_modify {opc : BitVec 8} {main : Bool} {f : State → State} {s t : State}
    (h : command opc main (Act.modify f) s = .next t) :
    modeRefuses s.mode opc = true ∧ t = record .busy .command opc s ∨ modeRefuses s.mode opc = false ∧ t = f s := by
  cases hm : modeRefuses s.mode opc with
  | true =>
    rw [command_busy hm] at h
    injection h with h
    exact .inl ⟨rfl, h.symm⟩
  | false =>
    rw [command_ok hm (Act.modify_apply f s)] at h
    injection h with h
    exact .inr ⟨rfl, h.symm⟩

theorem busy_reaches (opc : BitVec 8) (s : State) : Reaches opc s (record .busy .command opc s) :=
  (Reaches.refl opc s).record .busy false

/-- RESET is accepted in every mode (R35). -/
theorem exec_reset (s : State) : exec .reset s = .next (resetBlock s) := by
  refine command_ok (main := false) ?_ (Act.modify_apply resetBlock s)
  cases s.mode <;> rfl

/-- REPLY at a checkpoint is the answer (R212). -/
theorem exec_reply_checkpoint {s : State} (h : s.mode = .checkpoint) : exec .reply s = .next (answerCheckpoint s) :=
  command_ok (by rw [h]; rfl) (Act.bind_of_ok (a := ()) (Act.need_of_true (decide_eq_true h)))

theorem exec_run {s t : State} (h : exec .run s = .next t) : t = record .busy .command 0x02 s ∨ t = startRun s :=
  (command_modify (main := false) h).imp And.right And.right

/-- Every command but RESET and RUN: changes and records under its opcode, then at most a change of the run state. -/
theorem exec_reaches {i : Instr} (hreset : i ≠ .reset) (hrun : i ≠ .run) {s t : State} (h : exec i s = .next t) :
    ∃ u, Reaches i.opcode s u ∧ ModeChange u t := by
  by_cases hi : IsRunControl i
  · cases i with
    | reset => exact absurd rfl hreset
    | run => exact absurd rfl hrun
    | step =>
      rcases command_modify (main := false) h with ⟨-, rfl⟩ | ⟨-, rfl⟩
      · exact ⟨_, busy_reaches _ s, .stay⟩
      · exact stepFrame_reaches s
    | reply =>
      by_cases hm : s.mode = .checkpoint
      · rw [exec_reply_checkpoint hm] at h
        injection h with h
        exact ⟨s, .refl _ s, h ▸ .answer hm⟩
      · refine ⟨t, command_reaches (Act.wp_bind.2 (Act.wp_need (fun h => ?_) fun _ => .refl s)) h, .stay⟩
        exact absurd (of_decide_eq_true h) hm
    | _ => exact hi.elim
  · obtain ⟨main, body, hbody, -, hunit⟩ := exec_body i hi s
    rw [hbody] at h
    exact ⟨t, command_reaches (hunit.works s rfl) h, .stay⟩

theorem answerCheckpoint_cases (s : State) :
    answerCheckpoint s = { s with mode := .running } ∨ answerCheckpoint s = stopRun s := by
  unfold answerCheckpoint
  cases argBit0 s
  · exact .inr rfl
  · exact .inl rfl

/-- A change of the run state changes MODE, STOPPED and IRQ_STATUS only, and no ERR bit. -/
theorem ModeChange.frame {s t : State} (h : ModeChange s t) :
    t = { s with mode := t.mode, stopped := t.stopped, irqStatus := t.irqStatus } ∧
      t.irqStatus.getLsbD 2 = s.irqStatus.getLsbD 2 := by
  cases h with
  | stay => exact ⟨rfl, rfl⟩
  | finish => exact ⟨rfl, by simp [endRun, irqDone]⟩
  | checkpoint => exact ⟨rfl, by simp [enterCheckpoint, irqCkpt]⟩
  | answer =>
    rcases answerCheckpoint_cases s with h | h <;> rw [h]
    · exact ⟨rfl, rfl⟩
    · exact ⟨rfl, by simp [stopRun, irqDone]⟩

theorem illegalWord_reaches (w : Word) (s : State) : Reaches (opcOf w) s (illegalWord w s) := by
  unfold illegalWord
  split
  · exact busy_reaches _ s
  · exact (Reaches.refl _ s).record .illegalCommand false

/-- All that one step can do (R12): the host's access, a restart, or a row of changes and records under one opcode with
at most a change of the run state at its end. -/
inductive StepOutcome (s t : State) : Prop
  | access (h : HostAccess s t)
  | restart (u : State) (h : HostAccess s u) (h' : Restart u t)
  | command (u v : State) (opc : BitVec 8) (h : HostAccess s u) (h' : Reaches opc u v) (h'' : ModeChange v t)

theorem HostAccess.moves (s : State) (ms : List Move) : HostAccess s { s with moves := ms } := rfl

theorem runWord_outcome {w : Word} {ms : List Move} {s t : State} (h : runWord w { s with moves := ms } = .next t) :
    StepOutcome s t := by
  have hms := HostAccess.moves s ms
  cases hd : decode w with
  | error e =>
    rw [runWord_of_error hd] at h
    injection h with h
    exact .command _ t (opcOf w) hms (h ▸ illegalWord_reaches w _) .stay
  | ok i =>
    rw [runWord_of_ok hd] at h
    by_cases hreset : i = .reset
    · rw [hreset, exec_reset] at h
      injection h with h
      exact .restart _ hms (h ▸ .reset)
    · by_cases hrun : i = .run
      · subst hrun
        rcases exec_run h with rfl | rfl
        · exact .command _ _ _ hms (busy_reaches 0x02 _) .stay
        · exact .restart _ hms .run
      · obtain ⟨u, hu, hmode⟩ := exec_reaches hreset hrun h
        exact .command _ u _ hms hu hmode

theorem sequencerTurn_outcome {u t : State} (h : sequencerTurn u = .next t) :
    ∃ v, Reaches 0x02 u v ∧ ModeChange v t := by
  unfold sequencerTurn at h
  split at h <;> injection h with h <;> subst h
  next hm => exact sequencerStep_reaches hm
  all_goals exact ⟨_, .refl _ _, .stay⟩

theorem writeReg_access {off : Nat} {v : Word} {s t : State} (h : writeReg off v s = .next t) : HostAccess s t := by
  unfold writeReg writeInLen at h
  split at h
  case h_3 =>
    split at h
    · exact absurd h nofun
    · injection h with h
      subst h
      rfl
  all_goals
    injection h with h
    subst h
    rfl

theorem writeInput_access {a : Nat} {b : Byte} {s t : State} (h : writeInput a b s = .next t) : HostAccess s t := by
  unfold writeInput at h
  split_ifs at h
  injection h with h
  subst h
  rfl

theorem HostAccess.trans {s t u : State} (h : HostAccess s t) (h' : HostAccess t u) : HostAccess s u := by
  unfold HostAccess at *
  rw [h', h]

theorem hostMove_outcome {m : Move} {ms : List Move} {s t : State} (h : hostMove m { s with moves := ms } = .next t) :
    StepOutcome s t := by
  have hms := HostAccess.moves s ms
  cases m with
  | write off v => exact .access (hms.trans (writeReg_access h))
  | read off =>
    injection h with h
    subst h
    exact .access rfl
  | writeIn a b => exact .access (hms.trans (writeInput_access h))
  | sequencer =>
    obtain ⟨v, hv, hmode⟩ := sequencerTurn_outcome h
    exact .command _ v _ hms hv hmode
  | powerOn =>
    injection h with h
    exact .restart _ hms (h ▸ .powerOn)

theorem step_outcome {s t : State} (h : step s = .next t) : StepOutcome s t := by
  unfold step at h
  split at h
  next =>
    obtain ⟨v, hv, hmode⟩ := sequencerTurn_outcome h
    exact .command s v _ rfl hv hmode
  next m ms _ =>
    unfold perform at h
    split at h
    next => exact runWord_outcome h
    next => exact hostMove_outcome h

/-- Packages the induction: a predicate that the host's accesses, the restarts, the changes, the records and the changes
of the run state keep is kept by every step. -/
theorem step_keeps {P : State → Prop} (haccess : ∀ s t, HostAccess s t → P s → P t)
    (hrestart : ∀ s t, Restart s t → P s → P t) (hchange : ∀ s t, Change s t → P s → P t)
    (hrecord : ∀ opc s e main, P s → P (record e (Err.cls main e) opc s))
    (hmode : ∀ s t, ModeChange s t → P s → P t) {s t : State} (hs : P s) (h : step s = .next t) : P t := by
  cases step_outcome h with
  | access h => exact haccess _ _ h hs
  | restart u h h' => exact hrestart _ _ h' (haccess _ _ h hs)
  | command u v opc h h' h'' => exact hmode _ _ h'' (h'.keeps hchange (hrecord opc) (haccess _ _ h hs))

end Sys2Proof.Machine

/-! # The state family, part 7: the invariants every step keeps -/

namespace Sys2Proof.Machine

open Sys2Proof.Safety

/-! ## Arrays and spectra -/

theorem PerPart.get_set {α : Type} (x : PerPart α) (g g' : Gran) (c c' : Chan) (v : α) :
    (x.set g c v).get g' c' = v ∧ (g', c') = (g, c) ∨ (x.set g c v).get g' c' = x.get g' c' ∧ (g', c') ≠ (g, c) := by
  by_cases h : (g', c') = (g, c)
  · obtain ⟨rfl, rfl⟩ := Prod.mk.inj h
    exact .inl ⟨PerPart.get_set_self x _ _ v, rfl⟩
  · exact .inr ⟨PerPart.get_set_ne x v h, h⟩

/-- What holds of every part goes on holding when one part takes a value of which it holds. -/
theorem PerPart.forall_set {α : Type} {p : α → Prop} {x : PerPart α} {g : Gran} {c : Chan} {v : α}
    (hx : ∀ g c, p (x.get g c)) (hv : p v) : ∀ g' c', p ((x.set g c v).get g' c') := by
  intro g' c'
  rcases PerPart.get_set x g g' c c' v with ⟨h, -⟩ | ⟨h, -⟩ <;> rw [h]
  · exact hv
  · exact hx g' c'

theorem PerChan.forall_set {α : Type} {p : α → Prop} {x : PerChan α} {c : Chan} {v : α} (hx : ∀ c, p (x.get c))
    (hv : p v) : ∀ c', p ((x.set c v).get c') := by
  intro c'
  by_cases h : c' = c
  · subst h; rwa [PerChan.get_set_self]
  · rw [PerChan.get_set_ne x v h]; exact hx c'

/-- The arrays' sizes and the spectra's ranges, part by part. -/
structure SpectraFit (s : State) : Prop where
  xr : ∀ g c, (s.xr.get g c).length = 576
  md : ∀ g c, SpectrumFits (s.md.get g c).is (s.md.get g c).zpb
  ovl : ∀ c, OvlSized (s.ovl.get c)
  vh : ∀ c, VhSized (s.vh.get c)

theorem spectraFit_iff (s : State) : SpectraFit s ↔ ArraysOk s ∧ SpectrumOk s := by
  constructor
  · rintro ⟨hxr, hmd, hovl, hvh⟩
    exact ⟨⟨hxr, fun g c => (hmd g c).1, hovl, hvh⟩, fun g c => (hmd g c).2⟩
  · rintro ⟨⟨hxr, hlen, hovl, hvh⟩, hmd⟩
    exact ⟨hxr, fun g c => ⟨hlen g c, hmd g c⟩, hovl, hvh⟩

theorem zeroCarry_sized : (∀ c, OvlSized (State.reset.ovl.get c)) ∧ ∀ c, VhSized (State.reset.vh.get c) := by
  constructor <;> intro c <;> cases c <;>
    exact ⟨List.length_replicate, fun r hr => by rw [(List.mem_replicate.1 hr).2]; exact List.length_replicate⟩

theorem spectraFit_reset : SpectraFit State.reset where
  xr g c := by
    rw [show State.reset.xr = .const (List.replicate 576 .zero) from rfl, PerPart.get_const]
    exact List.length_replicate
  md g c := by
    rw [reset_md, PerPart.get_const]
    refine ⟨List.length_replicate, Nat.zero_le _, fun i _ => ?_, fun x hx => ?_⟩
    · simp only [PartData.reset, List.getD_eq_getElem?_getD, List.getElem?_replicate]
      split <;> rfl
    · rw [(List.mem_replicate.1 hx).2]
      decide
  ovl := zeroCarry_sized.1
  vh := zeroCarry_sized.2

theorem Restart.spectraFit {s t : State} (h : Restart s t) (hs : SpectraFit s) : SpectraFit t := by
  cases h with
  | run => exact ⟨hs.xr, hs.md, zeroCarry_sized.1, zeroCarry_sized.2⟩
  | reset | powerOn =>
    obtain ⟨hxr, hmd, hovl, hvh⟩ := spectraFit_reset
    exact ⟨hxr, hmd, hovl, hvh⟩

theorem md_set_fits {s : State} (hs : SpectraFit s) {g : Gran} {c : Chan} {d : PartData}
    (hd : SpectrumFits d.is d.zpb) :
    ∀ g' c', SpectrumFits ((s.md.set g c d).get g' c').is ((s.md.set g c d).get g' c').zpb :=
  PerPart.forall_set (p := fun d : PartData => SpectrumFits d.is d.zpb) hs.md hd

theorem Change.spectraFit {s t : State} (h : Change s t) (hs : SpectraFit s) : SpectraFit t := by
  cases h with
  | seek r p _ => cases r <;> exact ⟨hs.xr, hs.md, hs.ovl, hs.vh⟩
  | resolve _ _ ht => rw [(resolve_ok ht).2]; exact ⟨hs.xr, hs.md, hs.ovl, hs.vh⟩
  | scaleFactors g c sf start len _ => exact ⟨hs.xr, md_set_fits hs (hs.md g c), hs.ovl, hs.vh⟩
  | spectrum g c is zpb count1 h => exact ⟨hs.xr, md_set_fits hs h, hs.ovl, hs.vh⟩
  | stage g c t x _ hx =>
    rw [stageDone_eq]
    exact ⟨PerPart.forall_set (p := fun l : List XReal => l.length = 576) hs.xr (hx (hs.xr g c)), hs.md, hs.ovl, hs.vh⟩
  | overlap c l hl => exact ⟨hs.xr, hs.md, PerChan.forall_set hs.ovl hl, hs.vh⟩
  | history c l hl => exact ⟨hs.xr, hs.md, hs.ovl, PerChan.forall_set hs.vh (hl (hs.vh c))⟩
  | _ => exact ⟨hs.xr, hs.md, hs.ovl, hs.vh⟩

theorem HostAccess.spectraFit {s t : State} (h : HostAccess s t) (hs : SpectraFit s) : SpectraFit t := by
  rw [h]
  exact ⟨hs.xr, hs.md, hs.ovl, hs.vh⟩

theorem ModeChange.spectraFit {s t : State} (h : ModeChange s t) (hs : SpectraFit s) : SpectraFit t := by
  rw [h.frame.1]
  exact ⟨hs.xr, hs.md, hs.ovl, hs.vh⟩

end Sys2Proof.Machine

namespace Sys2Proof.Proofs

open Sys2Proof.Machine Sys2Proof.Safety

/-- Settles O58: the sizes and ranges are kept by each change a step is made of; the decoder's values are at most 15
plus an escape of 13 bits. -/
theorem spectraKept : Obligations.SpectraKept := by
  intro s t harrays hspectra hstep
  rw [← spectraFit_iff]
  exact step_keeps (fun _ _ => HostAccess.spectraFit) (fun _ _ => Restart.spectraFit) (fun _ _ => Change.spectraFit)
    (fun _ _ _ _ hu => ⟨hu.xr, hu.md, hu.ovl, hu.vh⟩) (fun _ _ => ModeChange.spectraFit)
    ((spectraFit_iff s).2 ⟨harrays, hspectra⟩) hstep

end Sys2Proof.Proofs

namespace Sys2Proof.Machine

open Sys2Proof.Safety

/-! ## Frame, main data and stages -/

theorem histBytes_length (h : List HistEntry) : (histBytes h).length = histTotal h := by
  simp [histBytes, histTotal, List.length_flatMap]

/-- Where nothing is decoded, only the frame and MDBUF are left to agree. -/
theorem stagesOk_clearStages {s : State} (htab : TablesOk s.cfg) (hfrm : s.frmValid = true → FrameOk s.cfg s.frm)
    (hnone : s.frmValid = false → s.mdbuf = [] ∧ s.mdRef = []) (hbuf : s.mdbuf.length ≤ 1931)
    (hpos : s.mdPos ≤ 8 * s.mdbuf.length) : StagesOk (clearStages s) :=
  ⟨htab, hfrm, fun hf => ⟨rfl, rfl, rfl, hnone hf⟩, hbuf, hpos, fun g c h => absurd (PerPart.get_const _ g c) h,
    fun g c h => absurd (PerPart.get_const _ g c) h, nofun, fun _ g => PerPart.get_const _ g .c1⟩

/-- A part open to a stage is decoded (R625). -/
theorem StageOpen.decoded {s : State} {g : Gran} {c : Chan} (h : StageOpen s g c) (hs : StagesOk s) :
    s.mdst.get g c ≠ .none := by
  obtain ⟨-, -, -, -, -, -, htag, hvalid, -⟩ := hs
  rcases h with h | h | ⟨hv, hq⟩
  · exact h
  · exact htag g c h
  · exact hvalid hv (g, c) hq

/-- A decoded part is one of a current frame. -/
theorem frmValid_of_decoded {s : State} {g : Gran} {c : Chan} (h : s.mdst.get g c ≠ .none) (hs : StagesOk s) :
    s.frmValid = true := by
  obtain ⟨-, -, hnone, -⟩ := hs
  by_contra hf
  rw [(hnone (Bool.eq_false_of_not_eq_true hf)).1] at h
  exact h (PerPart.get_const _ g c)

/-- The rule of Resolve keeps MDBUF within 511 bytes of history and 1420 of payload (R42). -/
theorem resolve_mdbuf_length {s : State} (hs : StagesOk s) (hf : s.frmValid = true)
    (hk : s.frm.si.mainDataEnd.toNat ≤ histTotal s.hist) :
    ((histBytes s.hist).drop ((histBytes s.hist).length - s.frm.si.mainDataEnd.toNat) ++ s.frm.payload).length
      ≤ 1931 := by
  obtain ⟨htab, hfrm, -⟩ := hs
  have hpay := payload_length_le htab (hfrm hf)
  have hend : s.frm.si.mainDataEnd.toNat < 512 := s.frm.si.mainDataEnd.isLt
  rw [List.length_append, List.length_drop, histBytes_length]
  omega

theorem Change.stagesOk {s t : State} (h : Change s t) (hs : StagesOk s) : StagesOk t := by
  have ⟨htab, hfrm, hnone, hbuf, hpos, hsf, htag, hvalid, hmono⟩ := hs
  cases h with
  | seek r p hp =>
    cases r with
    | inp => exact hs
    | md => exact ⟨htab, hfrm, hnone, hbuf, hp rfl hpos, hsf, htag, hvalid, hmono⟩
  | commit r hr => exact stagesOk_clearStages htab (fun _ => hr htab) nofun (Nat.zero_le _) (Nat.zero_le _)
  | resolve t hf ht =>
    obtain ⟨hk, rfl⟩ := resolve_ok ht
    refine stagesOk_clearStages htab hfrm (fun hf' => ?_) (resolve_mdbuf_length hs hf hk) (Nat.zero_le _)
    exact absurd (hf.symm.trans hf') nofun
  | scaleFactors g c sf start len hnew =>
    refine ⟨htab, hfrm, hnone, hbuf, hpos, fun g' c' h => ?_, htag, hvalid, hmono⟩
    rcases PerPart.get_set s.md g g' c c' { s.md.get g c with sf, p23start := start, p2len := len } with
      ⟨hd, hq⟩ | ⟨hd, -⟩ <;> dsimp only <;> rw [hd]
    · obtain ⟨rfl, rfl⟩ := Prod.mk.inj hq
      exact hnew
    · exact hsf g' c' h
  | spectrum g c is zpb count1 _ =>
    refine ⟨htab, hfrm, hnone, hbuf, hpos, fun g' c' h => ?_, htag, hvalid, hmono⟩
    rcases PerPart.get_set s.md g g' c c' { s.md.get g c with is, zpb, count1 } with
      ⟨hd, hq⟩ | ⟨hd, -⟩ <;> dsimp only <;> rw [hd]
    · obtain ⟨rfl, rfl⟩ := Prod.mk.inj hq
      exact hsf g' c' h
    · exact hsf g' c' h
  | decoded g c v hv hf hc hd =>
    have keep := mdst_set_ne_none s.mdst g c hv
    refine ⟨htab, hfrm, fun hf' => absurd (hf.symm.trans hf') nofun, hbuf, hpos, fun g' c' h => ?_,
      fun g' c' h => keep g' c' (htag g' c' h), fun hv q hq => keep _ _ (hvalid hv q hq), fun hn g' => ?_⟩
    · rw [setMdst_mdst] at h
      rcases PerPart.get_set s.mdst g g' c c' v with ⟨-, hq⟩ | ⟨hget, -⟩
      · obtain ⟨rfl, rfl⟩ := Prod.mk.inj hq
        exact hd.elim (hsf g' c') id
      · rw [hget] at h
        exact hsf g' c' h
    · have hne : (g', Chan.c1) ≠ (g, c) := by
        rintro h
        obtain ⟨rfl, rfl⟩ := Prod.mk.inj h
        exact of_decide_eq_true hc hn
      rw [setMdst_mdst, PerPart.get_set_ne _ _ hne]
      exact hmono hn g'
  | mdValid hf hall =>
    exact ⟨htab, hfrm, fun hf' => absurd (hf.symm.trans hf') nofun, hbuf, hpos, hsf, htag, fun _ => hall, hmono⟩
  | stage g c t x ho _ =>
    have hd := ho.decoded hs
    have hf := frmValid_of_decoded hd hs
    rw [stageDone_eq]
    refine ⟨htab, hfrm, fun hf' => absurd (hf.symm.trans hf') nofun, hbuf, hpos, hsf, fun g' c' h => ?_, hvalid, hmono⟩
    dsimp only at h ⊢
    rcases PerPart.get_set s.tag g g' c c' t with ⟨-, hq⟩ | ⟨hget, -⟩
    · obtain ⟨rfl, rfl⟩ := Prod.mk.inj hq
      exact hd
    · rw [hget] at h
      exact htag g' c' h
  | _ => exact hs

theorem Restart.stagesOk {s t : State} (h : Restart s t) (hs : StagesOk s) : StagesOk t := by
  have htab : TablesOk s.cfg := hs.1
  cases h with
  | run => exact stagesOk_clearStages htab nofun (fun _ => ⟨rfl, rfl⟩) (Nat.zero_le _) (Nat.zero_le _)
  | reset =>
    exact stagesOk_clearStages (s := resetBlock s) htab nofun (fun _ => ⟨rfl, rfl⟩) (Nat.zero_le _) (Nat.zero_le _)
  | powerOn =>
    exact stagesOk_clearStages (s := Machine.powerOn s) htab nofun (fun _ => ⟨rfl, rfl⟩) (Nat.zero_le _) (Nat.zero_le _)

theorem HostAccess.stagesOk {s t : State} (h : HostAccess s t) (hs : StagesOk s) : StagesOk t := by
  rw [h]
  exact hs

theorem ModeChange.stagesOk {s t : State} (h : ModeChange s t) (hs : StagesOk s) : StagesOk t := by
  rw [h.frame.1]
  exact hs

end Sys2Proof.Machine

namespace Sys2Proof.Proofs

open Sys2Proof.Machine Sys2Proof.Safety

/-- Settles O59: each change is made under a condition that keeps the agreement; a part is tagged only when it is
decoded, and marked as decoded only with scale factors of its shape. -/
theorem stagesKept : Obligations.StagesKept := fun _ _ hs hstep =>
  step_keeps (fun _ _ => HostAccess.stagesOk) (fun _ _ => Restart.stagesOk) (fun _ _ => Change.stagesOk)
    (fun _ _ _ _ hu => hu) (fun _ _ => ModeChange.stagesOk) hs hstep

end Sys2Proof.Proofs

namespace Sys2Proof.Machine

open Sys2Proof.Safety

/-! ## Outputs and records -/

/-- What HistPush keeps is no longer than it need be (R314, R316). -/
theorem histTotal_dropOldest_tail {keep : Nat} {h : List HistEntry} {e : HistEntry} {es : List HistEntry}
    (hd : dropOldest keep h = e :: es) (hes : es ≠ []) : histTotal es < keep := by
  induction h with
  | nil => exact absurd hd nofun
  | cons a l ih =>
    cases l with
    | nil =>
      obtain ⟨-, rfl⟩ := List.cons.inj hd
      exact absurd rfl hes
    | cons b l =>
      unfold dropOldest at hd
      split at hd
      · exact ih hd
      next hlt =>
        obtain ⟨-, rfl⟩ := List.cons.inj hd
        exact Nat.not_le.1 hlt

theorem Change.outputsOk {s t : State} (h : Change s t) (hs : OutputsOk s) : OutputsOk t := by
  have ⟨hcnt, hlast, hpcm, hckpt, hrun, hhist⟩ := hs
  cases h with
  | seek r p _ => cases r <;> exact hs
  | commit r _ =>
    refine ⟨?_, fun _ => ⟨_, List.getLast?_concat, rfl⟩, hpcm, fun _ => rfl, hrun, hhist⟩
    change s.frameCnt + 1 = BitVec.ofNat 32 (s.outFrames ++ _).length
    rw [hcnt, List.length_append, BitVec.ofNat_add]
    rfl
  | resolve _ _ ht => rw [(resolve_ok ht).2]; exact hs
  | histPush => exact ⟨hcnt, hlast, hpcm, hckpt, hrun, fun e es => histTotal_dropOldest_tail⟩
  | stage => rw [stageDone_eq]; exact hs
  | outPcm c x hx =>
    refine ⟨hcnt, hlast, PerChan.forall_set (p := fun l : List XReal => 576 ∣ l.length) hpcm ?_, hckpt, hrun, hhist⟩
    rw [List.length_append]
    exact Nat.dvd_add (hpcm c) hx
  | _ => exact hs

theorem Change.recordsOk {s t : State} (h : Change s t) (hs : RecordsOk s) : RecordsOk t := by
  cases h with
  | seek r p _ => cases r <;> exact hs
  | resolve _ _ ht => rw [(resolve_ok ht).2]; exact hs
  | stage => rw [stageDone_eq]; exact hs
  | ckptInfo fail => exact ⟨hs.1, .inr ⟨_, fail, rfl⟩⟩
  | _ => exact hs

theorem emptyPcm_granules (c : Chan) : 576 ∣ ((⟨[], []⟩ : PerChan (List XReal)).get c).length := by
  cases c <;> exact ⟨0, rfl⟩

theorem Restart.outputsOk {s t : State} (h : Restart s t) (hs : OutputsOk s ∧ RecordsOk s) :
    OutputsOk t ∧ RecordsOk t := by
  cases h with
  | run => exact ⟨⟨rfl, nofun, emptyPcm_granules, nofun, fun _ => rfl, nofun⟩, hs.2.1, .inl rfl⟩
  | reset | powerOn => exact ⟨⟨rfl, nofun, emptyPcm_granules, nofun, fun _ => rfl, nofun⟩, .inl rfl, .inl rfl⟩

theorem HostAccess.outputsOk {s t : State} (h : HostAccess s t) (hs : OutputsOk s ∧ RecordsOk s) :
    OutputsOk t ∧ RecordsOk t := by
  rw [h]
  exact hs

theorem ModeChange.outputsOk {s t : State} (h : ModeChange s t) (hs : OutputsOk s ∧ RecordsOk s) :
    OutputsOk t ∧ RecordsOk t := by
  have ⟨⟨hcnt, hlast, hpcm, _, hrun, hhist⟩, hrec⟩ := hs
  cases h with
  | stay => exact hs
  | finish => exact ⟨⟨hcnt, hlast, hpcm, nofun, nofun, hhist⟩, hrec⟩
  | checkpoint hm hf => exact ⟨⟨hcnt, hlast, hpcm, fun _ => hf, fun _ => hrun (.inl hm), hhist⟩, hrec⟩
  | answer hm =>
    rcases answerCheckpoint_cases s with h | h <;> rw [h]
    · exact ⟨⟨hcnt, hlast, hpcm, nofun, fun _ => hrun (.inr hm), hhist⟩, hrec⟩
    · exact ⟨⟨hcnt, hlast, hpcm, nofun, nofun, hhist⟩, hrec⟩

end Sys2Proof.Machine

namespace Sys2Proof.Proofs

open Sys2Proof.Machine Sys2Proof.Safety

/-- Settles O60: FRAME_CNT, FRM and OUT_FRAMES change together, a run halts or checkpoints only from its own modes, and
a step's errors are recorded with the classes R621 gives them. -/
theorem recordsKept : Obligations.RecordsKept := fun _ _ houtputs hrecords hstep =>
  step_keeps (P := fun s => OutputsOk s ∧ RecordsOk s) (fun _ _ => HostAccess.outputsOk) (fun _ _ => Restart.outputsOk)
    (fun _ _ hc hu => ⟨hc.outputsOk hu.1, hc.recordsOk hu.2⟩)
    (fun opc _ e main hu => ⟨hu.1, .inr ⟨e, main, opc, rfl⟩, hu.2.2⟩) (fun _ _ => ModeChange.outputsOk)
    ⟨houtputs, hrecords⟩ hstep

end Sys2Proof.Proofs

/-! # The state family, part 8: rules about every command -/

namespace Sys2Proof.Machine

open Sys2Proof.Safety

/-! ## The ERR word -/

theorem toNat_append_eq {m n : Nat} (x : BitVec m) (y : BitVec n) : (x ++ y).toNat = x.toNat * 2 ^ n + y.toNat := by
  rw [BitVec.toNat_append, Nat.shiftLeft_eq, mul_comm, Nat.two_pow_add_eq_or_of_lt y.isLt]

/-- The ERR word as a number (R39). -/
theorem errWord_toNat (opc : BitVec 8) (c : ErrClass) (e : Err) :
    (errWord opc c e).toNat = 65536 * opc.toNat + 256 * c.code.toNat + e.code.toNat := by
  have fields : ∀ (a : BitVec 8) (b : BitVec 3) (d : BitVec 8),
      (0#8 ++ a ++ 0#5 ++ b ++ d : BitVec (8 + 8 + 5 + 3 + 8)).toNat = 65536 * a.toNat + 256 * b.toNat + d.toNat := by
    intro a b d
    simp only [toNat_append_eq, BitVec.toNat_ofNat]
    omega
  exact fields opc c.code e.code

/-- The fields of the ERR word (R39). -/
theorem errWord_fields (opc : BitVec 8) (c : ErrClass) (e : Err) :
    (errWord opc c e).extractLsb' 16 8 = opc ∧ (errWord opc c e).extractLsb' 8 3 = c.code ∧
      (errWord opc c e).extractLsb' 0 8 = e.code ∧ (errWord opc c e).extractLsb' 24 8 = 0 ∧
      (errWord opc c e).extractLsb' 11 5 = 0 := by
  have hopc := opc.isLt
  have hcls := c.code.isLt
  have hcode := e.code.isLt
  refine ⟨?_, ?_, ?_, ?_, ?_⟩ <;> apply BitVec.eq_of_toNat_eq <;>
    simp only [BitVec.extractLsb'_toNat, Nat.shiftRight_eq_div_pow, errWord_toNat, BitVec.ofNat_eq_ofNat,
      BitVec.toNat_ofNat] <;> omega

/-- The ERR word of a command error, as a sum of its fields (R39, R621). -/
theorem errWord_command (opc : BitVec 8) (e : Err) :
    errWord opc .command e = 0x400 + e.code.zeroExtend 32 + 0x10000 * opc.zeroExtend 32 := by
  have hopc := opc.isLt
  have hcode := e.code.isLt
  apply BitVec.eq_of_toNat_eq
  simp only [errWord_toNat, BitVec.toNat_add, BitVec.toNat_mul, BitVec.truncate_eq_setWidth, BitVec.toNat_setWidth,
    BitVec.ofNat_eq_ofNat, BitVec.toNat_ofNat, ErrClass.code]
  omega

/-! ## Busy -/

/-- A command in a mode that refuses its opcode records Busy and does nothing else (R35). -/
theorem exec_busy {i : Instr} {s : State} (h : modeRefuses s.mode i.opcode = true) :
    exec i s = .next (record .busy .command i.opcode s) := by
  obtain ⟨main, body, hi⟩ := exec_is_command i s
  rw [hi, command_busy h]

theorem opcode_eq_reset {i : Instr} : i.opcode = 1#8 ↔ i = .reset := by
  cases i <;> simp [Instr.opcode]

theorem opcode_eq_reply {i : Instr} : i.opcode = 4#8 ↔ i = .reply := by
  cases i <;> simp [Instr.opcode]

/-- The modes and opcodes of R35. -/
theorem modeRefuses_iff (m : Mode) (opc : BitVec 8) : modeRefuses m opc = true ↔
    m = .running ∧ opc ≠ 1#8 ∨ m = .checkpoint ∧ opc ≠ 1#8 ∧ opc ≠ 4#8 := by
  cases m <;> simp [modeRefuses]

/-! ## ERR -/

/-- ERR is as it was, or holds an error of the opcode, with its bit set; the bit, once set, stays (R39, R622). -/
def ErrStep (opc : BitVec 8) (s t : State) : Prop :=
  (s.irqStatus.getLsbD 2 = true → t.irqStatus.getLsbD 2 = true) ∧
    (t.err = s.err ∨ ∃ e main, t.err = errWord opc (Err.cls main e) e ∧ t.irqStatus.getLsbD 2 = true)

theorem Change.err {s t : State} (h : Change s t) : t.err = s.err := by
  cases h with
  | seek r p _ => cases r <;> rfl
  | resolve _ _ ht => rw [(resolve_ok ht).2]; rfl
  | stage => rw [stageDone_eq]
  | _ => rfl

theorem Reaches.errStep {opc : BitVec 8} {s t : State} (h : Reaches opc s t) : ErrStep opc s t := by
  refine h.keeps (P := ErrStep opc s) (fun u v hc ⟨hbit, herr⟩ => ?_) (fun u e main ⟨hbit, _⟩ => ?_) ⟨id, .inl rfl⟩
  · have hirq : v.irqStatus.getLsbD 2 = u.irqStatus.getLsbD 2 := hc.runStateKept.2.2.2
    rw [ErrStep, hirq, hc.err]
    exact ⟨hbit, herr⟩
  · have hset : (Machine.record e (Err.cls main e) opc u).irqStatus.getLsbD 2 = true := by simp [irqErr]
    exact ⟨fun _ => hset, .inr ⟨e, main, rfl, hset⟩⟩

theorem ModeChange.err {s t : State} (h : ModeChange s t) : t.err = s.err := by rw [h.frame.1]

end Sys2Proof.Machine

namespace Sys2Proof.Proofs

open Sys2Proof.Machine Sys2Proof.Safety

/-- Settles O5: the wrapper of every command refuses by mode and opcode before its body runs. -/
theorem busyRefusesByMode : Obligations.BusyRefusesByMode := by
  refine ⟨fun i s h => ?_, fun s => ⟨_, exec_reset s, rfl, rfl⟩, fun s h => ⟨_, exec_reply_checkpoint h, ?_⟩⟩
  · have hm : modeRefuses s.mode i.opcode = true := by
      rwa [modeRefuses_iff, Ne, Ne, opcode_eq_reset, opcode_eq_reply]
    rw [exec_busy hm, record, errWord_command]
    rfl
  · rcases answerCheckpoint_cases s with h | h <;> rw [h] <;> exact ⟨nofun, rfl⟩

/-- Settles O9: only a record changes ERR, and it is made under the command's own opcode. -/
theorem errHoldsTheLastError : Obligations.ErrHoldsTheLastError := by
  intro i s t hreset h
  by_cases hrun : i = .run
  · subst hrun
    rcases exec_run h with rfl | rfl
    · obtain ⟨hopc, hcls, hcode, h24, h11⟩ := errWord_fields 0x02 .command .busy
      exact .inr ⟨.busy, false, hopc, hcls, hcode, h24, h11, by simp [irqErr]⟩
    · exact .inl rfl
  · obtain ⟨u, hu, hmode⟩ := exec_reaches hreset hrun h
    rw [hmode.err, hmode.frame.2]
    refine hu.errStep.2.imp id fun ⟨e, main, herr, hbit⟩ => ?_
    obtain ⟨hopc, hcls, hcode, h24, h11⟩ := errWord_fields i.opcode (e.cls main) e
    exact ⟨e, main, herr ▸ hopc, herr ▸ hcls, herr ▸ hcode, herr ▸ h24, herr ▸ h11, hbit⟩

end Sys2Proof.Proofs

namespace Sys2Proof.Machine

open Sys2Proof.Safety

/-! ## Outputs -/

/-- Each of the seven outputs begins with what it held (R60, R61). -/
structure OutputsGrow (s t : State) : Prop where
  frames : s.outFrames <+: t.outFrames
  maindata : s.outMaindata <+: t.outMaindata
  byteref : s.outByteref <+: t.outByteref
  inter : s.outInter <+: t.outInter
  diag : s.outDiag <+: t.outDiag
  bytes : s.outBytes <+: t.outBytes
  pcm : ∀ c, s.outPcm.get c <+: t.outPcm.get c

theorem OutputsGrow.refl (s : State) : OutputsGrow s s :=
  ⟨List.prefix_rfl, List.prefix_rfl, List.prefix_rfl, List.prefix_rfl, List.prefix_rfl, List.prefix_rfl,
    fun _ => List.prefix_rfl⟩

theorem OutputsGrow.trans {s t u : State} (h : OutputsGrow s t) (h' : OutputsGrow t u) : OutputsGrow s u :=
  ⟨h.frames.trans h'.frames, h.maindata.trans h'.maindata, h.byteref.trans h'.byteref, h.inter.trans h'.inter,
    h.diag.trans h'.diag, h.bytes.trans h'.bytes, fun c => (h.pcm c).trans (h'.pcm c)⟩

theorem Change.outputsGrow {s t : State} (h : Change s t) : OutputsGrow s t := by
  have same := OutputsGrow.refl s
  have ⟨hframes, hmain, href, hinter, hdiag, hbytes, hpcm⟩ := same
  cases h with
  | seek r p _ => cases r <;> exact ⟨hframes, hmain, href, hinter, hdiag, hbytes, hpcm⟩
  | outBytes b => exact { same with bytes := List.prefix_append _ _ }
  | commit r _ => exact { same with frames := List.prefix_append _ _ }
  | resolve _ _ ht => rw [(resolve_ok ht).2]; exact { same with byteref := List.prefix_append _ _ }
  | outMaindata m => exact { same with maindata := List.prefix_append _ _ }
  | outDiag ds => exact { same with diag := List.prefix_append _ _ }
  | stage g c t x _ _ => rw [stageDone_eq]; exact { same with inter := List.prefix_append _ _ }
  | outPcm c x _ =>
    refine { same with pcm := fun d => ?_ }
    by_cases h : d = c
    · subst h
      rw [PerChan.get_set_self]
      exact List.prefix_append _ _
    · rw [PerChan.get_set_ne _ _ h]
  | _ => exact ⟨hframes, hmain, href, hinter, hdiag, hbytes, hpcm⟩

theorem Reaches.outputsGrow {opc : BitVec 8} {s t : State} (h : Reaches opc s t) : OutputsGrow s t :=
  h.keeps (P := OutputsGrow s) (fun _ _ hc hu => hu.trans hc.outputsGrow)
    (fun _ _ _ hu => ⟨hu.frames, hu.maindata, hu.byteref, hu.inter, hu.diag, hu.bytes, hu.pcm⟩) (.refl s)

theorem ModeChange.outputsGrow {s t : State} (h : ModeChange s t) : OutputsGrow s t := by
  have ⟨hframes, hmain, href, hinter, hdiag, hbytes, hpcm⟩ := OutputsGrow.refl s
  rw [h.frame.1]
  exact ⟨hframes, hmain, href, hinter, hdiag, hbytes, hpcm⟩

/-! ## Failed commands -/

/-- A command whose body keeps the ERR bit where it succeeds, and fails as R620 says, leaves all else alone when it
fails, whatever IRQ_STATUS holds. -/
theorem failed_command {md main : Bool} {i : Instr} {body : Cmd Unit} {s t : State} {q : BitVec 3}
    (hexec : exec i s = command i.opcode main body s)
    (hexec' : exec i (withIrq q s) = command i.opcode main body (withIrq q s))
    (hok : body.wp (fun _ u => u.irqStatus.getLsbD 2 = q.getLsbD 2) (fun _ _ => True) (withIrq q s))
    (hfails : Fails md body) (hq : q.getLsbD 2 = false) (h : exec i (withIrq q s) = .next t)
    (hbit : t.irqStatus.getLsbD 2 = true) :
    exec i s = .next { s with err := t.err, irqStatus := s.irqStatus ||| 0b100, inPos := t.inPos, mdPos := t.mdPos,
                              md := t.md, mdst := t.mdst } ∧
      (md = false → t.md = s.md ∧ t.mdst = s.mdst) := by
  rw [hexec'] at h
  rcases command_cases i.opcode main body (withIrq q s) with ⟨hm, h'⟩ | ⟨-, u, hu, h'⟩ | ⟨hm, e, u, hu, h'⟩ <;>
    rw [h'] at h <;> injection h with h <;> subst h
  · rw [hexec, command_busy (s := s) hm]
    exact ⟨rfl, fun _ => ⟨rfl, rfl⟩⟩
  · rw [(Act.wp_of_ok hu).1 hok, hq] at hbit
    exact absurd hbit nofun
  · rcases Act.wp_cases (hfails q s) with ⟨a, v, -, b, w, hw⟩ | ⟨e', v, hs, hv, hmoved⟩
    · exact absurd (hu.symm.trans hw) nofun
    · obtain ⟨rfl, rfl⟩ := Res.err.inj (hu.symm.trans hv)
      rw [hexec, command_err (s := s) hm hs]
      refine ⟨?_, hmoved.parts⟩
      rw [hmoved.frame]
      rfl

/-- Every command but RESET and STEP has such a body. -/
theorem exec_failed {i : Instr} {s t : State} {q : BitVec 3} (hreset : i ≠ .reset) (hstep : i ≠ .step)
    (hq : q.getLsbD 2 = false) (h : exec i (withIrq q s) = .next t) (hbit : t.irqStatus.getLsbD 2 = true) :
    exec i s = .next { s with err := t.err, irqStatus := s.irqStatus ||| 0b100, inPos := t.inPos, mdPos := t.mdPos,
                              md := t.md, mdst := t.mdst } ∧
      (decide (i = .maindata) = false → t.md = s.md ∧ t.mdst = s.mdst) := by
  by_cases hi : IsRunControl i
  · cases i with
    | reset => exact absurd rfl hreset
    | step => exact absurd rfl hstep
    | run => exact failed_command (main := false) rfl rfl (body := Act.modify startRun) rfl (.modify startRun) hq h hbit
    | reply =>
      refine failed_command (main := false) rfl rfl (Act.wp_bind.2 (Act.wp_need (fun hm => ?_) fun _ => trivial))
        (.bind (.need (fun _ _ => rfl) _) fun _ => .modify _) hq h hbit
      exact (ModeChange.answer (of_decide_eq_true hm)).frame.2
    | _ => exact hi.elim
  · obtain ⟨main, body, hexec, hexec', hunit⟩ := exec_body i hi s
    have hok := Act.wp_mono (hunit.works (withIrq q s) rfl) (fun _ _ hu => hu.irqErr) fun _ _ _ => trivial
    exact failed_command hexec (hexec' q) hok hunit.fails hq h hbit

end Sys2Proof.Machine

namespace Sys2Proof.Proofs

open Sys2Proof.Machine Sys2Proof.Safety

/-- Settles O10: of the changes a command or a turn of the sequencer makes, only appends reach the outputs. -/
theorem outputsOnlyGrow : Obligations.OutputsOnlyGrow := by
  intro s t h
  have hgrow : ∃ opc u, Reaches opc s u ∧ ModeChange u t := by
    rcases h with ⟨i, hreset, hrun, h⟩ | ⟨hmoves, h⟩
    · exact ⟨_, exec_reaches hreset hrun h⟩
    · rw [step, hmoves] at h
      exact ⟨_, sequencerTurn_outcome h⟩
  obtain ⟨opc, u, hu, hmode⟩ := hgrow
  obtain ⟨hframes, hmain, href, hinter, hdiag, hbytes, hpcm⟩ := hu.outputsGrow.trans hmode.outputsGrow
  exact ⟨hframes, hmain, href, hinter, hdiag, hbytes, hpcm⟩

/-- Settles O11: a body fails the same way whatever IRQ_STATUS holds, before it has written more than positions and, in
MAINDATA, decoded parts. -/
theorem failedCommandKeepsState : Obligations.FailedCommandKeepsState := by
  intro i s t q hreset hstep hq h hbit
  obtain ⟨hexec, hparts⟩ := exec_failed hreset hstep hq h hbit
  exact ⟨hexec, fun hi => hparts (decide_eq_false hi)⟩

end Sys2Proof.Proofs

/-! # The state family, part 9: command words, the register window and the power-on state -/

namespace Sys2Proof.Machine

open Sys2Proof.Safety

/-! ## Words that are no command's

A word the decoder takes for a command is that command's word: under the row's mask it is the row's match, and the bits
the mask leaves out are the fields the command was read from (R141, R142). -/

theorem accept_eq_ok {w m mask : Word} {i j : Instr} (h : accept w m mask i = .ok j) : w &&& mask = m ∧ i = j := by
  unfold accept at h
  split at h
  · next hm => exact ⟨hm, Except.ok.inj h⟩
  · exact absurd h nofun

/-- A word is its bits under a mask and the bits outside it. -/
theorem word_split (w mask : Word) : (w &&& mask) ||| (w &&& ~~~mask) = w := by
  ext k hk
  simp only [BitVec.getElem_or, BitVec.getElem_and, BitVec.getElem_not]
  cases w[k] <;> cases mask[k] <;> rfl

/-- The field S in its place. -/
def readerBits (r : Reader) : Word := if r = .md then 0x100 else 0

/-- The field GR in its place. -/
def granBits (g : Gran) : Word := if g = .g1 then 0x200 else 0

/-- The field CH in its place. -/
def chanBits (c : Chan) : Word := if c = .c1 then 0x400 else 0

/-- The field N in its place. -/
def countBits (n : BitVec 6) : Word := n.zeroExtend 32 <<< 16

theorem readerBits_readerOf (w : Word) : readerBits (readerOf w) = w &&& 0x100 := by
  rw [show (0x100 : Word) = BitVec.twoPow 32 8 from rfl, BitVec.and_twoPow, readerOf]
  cases w.getLsbD 8 <;> rfl

theorem granBits_granOf (w : Word) : granBits (granOf w) = w &&& 0x200 := by
  rw [show (0x200 : Word) = BitVec.twoPow 32 9 from rfl, BitVec.and_twoPow, granOf]
  cases w.getLsbD 9 <;> rfl

theorem chanBits_chanOf (w : Word) : chanBits (chanOf w) = w &&& 0x400 := by
  rw [show (0x400 : Word) = BitVec.twoPow 32 10 from rfl, BitVec.and_twoPow, chanOf]
  cases w.getLsbD 10 <;> rfl

theorem countBits_countOf (w : Word) : countBits (countOf w) = w &&& 0x3F0000 := by
  have hmask : ∀ k, (hk : k < 32) → (0x3F0000 : Word)[k] = decide (16 ≤ k ∧ k < 22) := by decide
  ext k hk
  rw [BitVec.getElem_and, hmask k hk]
  by_cases h : 16 ≤ k ∧ k < 22
  · have hk16 : 16 + (k - 16) = k := by omega
    have hlt : k - 16 < 6 := by omega
    simp [countBits, countOf, h, hk16, hlt, hk]
  · simp [countBits, countOf, h]
    omega

/-- The word of a command without fields. -/
theorem encode_of_fixed {w m : Word} {i : Instr} (h : w &&& 0xFFFFFFFF = m) (hi : encode i = m) : encode i = w := by
  rw [hi, ← h]
  exact BitVec.and_allOnes

/-- The word of a command with the field S. -/
theorem encode_of_reader {w m : Word} {f : Reader → Instr} (h : w &&& 0xFFFFFEFF = m)
    (hf : ∀ r, encode (f r) = m ||| readerBits r) : encode (f (readerOf w)) = w := by
  rw [hf, readerBits_readerOf, ← h]
  exact word_split w 0xFFFFFEFF

/-- The word of a command with the field GR. -/
theorem encode_of_gran {w m : Word} {f : Gran → Instr} (h : w &&& 0xFFFFFDFF = m)
    (hf : ∀ g, encode (f g) = m ||| granBits g) : encode (f (granOf w)) = w := by
  rw [hf, granBits_granOf, ← h]
  exact word_split w 0xFFFFFDFF

/-- The word of a command with the fields GR and CH. -/
theorem encode_of_part {w m : Word} {f : Gran → Chan → Instr} (h : w &&& 0xFFFFF9FF = m)
    (hf : ∀ g c, encode (f g c) = m ||| (granBits g ||| chanBits c)) : encode (f (granOf w) (chanOf w)) = w := by
  rw [hf, granBits_granOf, chanBits_chanOf, ← BitVec.and_or_distrib_left, ← h]
  exact word_split w 0xFFFFF9FF

/-- The word of BR_READ_BITS. -/
theorem encode_brReadBits (r : Reader) (n : BitVec 6) :
    encode (.brReadBits r n) = 0x10 ||| (readerBits r ||| countBits n) := by
  revert n
  cases r <;> decide

/-- A word that decodes is the word of its command (R141, R142). -/
theorem encode_of_decode {w : Word} {i : Instr} (h : decode w = .ok i) : encode i = w := by
  unfold decode at h
  split at h
  case h_30 => exact absurd h nofun
  all_goals obtain ⟨hm, rfl⟩ := accept_eq_ok h
  case h_6 =>
    rw [encode_brReadBits, readerBits_readerOf, countBits_countOf, ← BitVec.and_or_distrib_left, ← hm]
    exact word_split w 0xFFC0FEFF
  case h_7 => exact encode_of_reader (f := .brReadBytes) hm fun r => by cases r <;> rfl
  case h_8 => exact encode_of_reader (f := .brSeek) hm fun r => by cases r <;> rfl
  case h_9 => exact encode_of_reader (f := .brFindByte) hm fun r => by cases r <;> rfl
  case h_10 => exact encode_of_reader (f := .brTell) hm fun r => by cases r <;> rfl
  case h_11 => exact encode_of_reader (f := .brEof) hm fun r => by cases r <;> rfl
  case h_19 => exact encode_of_part (f := .huffGranule) hm fun g c => by cases g <;> cases c <;> rfl
  case h_20 => exact encode_of_part (f := .scalefac) hm fun g c => by cases g <;> cases c <;> rfl
  case h_22 => exact encode_of_part (f := .requant) hm fun g c => by cases g <;> cases c <;> rfl
  case h_23 => exact encode_of_part (f := .reorder) hm fun g c => by cases g <;> cases c <;> rfl
  case h_25 => exact encode_of_part (f := .antialias) hm fun g c => by cases g <;> cases c <;> rfl
  case h_26 => exact encode_of_part (f := .hybrid) hm fun g c => by cases g <;> cases c <;> rfl
  case h_27 => exact encode_of_part (f := .freqinv) hm fun g c => by cases g <;> cases c <;> rfl
  case h_28 => exact encode_of_part (f := .synth) hm fun g c => by cases g <;> cases c <;> rfl
  case h_24 => exact encode_of_gran (f := .stereo) hm fun g => by cases g <;> rfl
  all_goals exact encode_of_fixed hm rfl

/-- The low byte of a word is its opcode (R141). -/
theorem and_lowByte (w : Word) : w &&& 0xFF = (opcOf w).zeroExtend 32 := by
  have hmask : ∀ k, (hk : k < 32) → (0xFF : Word)[k] = decide (k < 8) := by decide
  ext k hk
  rw [BitVec.getElem_and, hmask k hk]
  by_cases h : k < 8 <;> simp [opcOf, h, hk]

theorem lowByte_eq_iff {w : Word} {b : BitVec 8} : w &&& 0xFF = b.zeroExtend 32 ↔ opcOf w = b := by
  rw [and_lowByte]
  refine ⟨fun h => BitVec.eq_of_toNat_eq ?_, fun h => h ▸ rfl⟩
  have hnat := congrArg BitVec.toNat h
  simp only [BitVec.truncate_eq_setWidth, BitVec.toNat_setWidth] at hnat
  have hw := (opcOf w).isLt
  have hb := b.isLt
  omega

/-- A step on a word that no command encodes to refuses the word (R140). -/
theorem step_illegalWord {s : State} {w : Word} {ms : List Move} (hmoves : s.moves = .write 0 w :: ms)
    (hw : ∀ i, encode i ≠ w) : step s = .next (illegalWord w { s with moves := ms }) := by
  rw [step_write_cmd hmoves]
  cases hd : decode w with
  | ok i => exact absurd (encode_of_decode hd) (hw i)
  | error e => exact runWord_of_error hd _

/-! ## The register window -/

/-- A step whose next move issues no command performs it. -/
theorem step_hostMove {s : State} {m : Move} {ms : List Move} (hmoves : s.moves = m :: ms) (hm : commandWord m = none) :
    step s = hostMove m { s with moves := ms } := by simp only [step, hmoves, perform, hm]

theorem commandWord_write {off : Nat} {v : Word} (h : off ≠ 0) : commandWord (.write off v) = none := if_neg h

/-- The registers the host can write (R33). -/
theorem writeReg_other {off : Nat} (h : off ∉ [0x00, 0x04, 0x18, 0x20, 0x24, 0x28]) (v : Word) (s : State) :
    writeReg off v s = .next s := by
  simp only [List.mem_cons, not_or] at h
  unfold writeReg
  split <;> simp_all

/-- An offset that holds no register reads 0 (R33). -/
theorem readReg_other {off : Nat} (h : off ∉ [0x04, 0x08, 0x0C, 0x10, 0x14, 0x18, 0x1C, 0x20, 0x24, 0x28, 0x2C])
    (s : State) : readReg s off = 0 := by
  simp only [List.mem_cons, not_or] at h
  unfold readReg
  split <;> simp_all

theorem hostMayWriteInput_iff (s : State) : hostMayWriteInput s = true ↔ Ready s := by
  simp [hostMayWriteInput, Ready]

theorem bit_toNat (b : Bool) : (bit b).toNat = b.toNat := by cases b <;> rfl

/-- The STATUS word as a number (R38). -/
theorem statusWord_toNat (s : State) : (statusWord s).toNat =
    256 * (s.err.toNat % 256) + 128 * s.mdValid.toNat + 64 * s.frmValid.toNat + 32 * s.stopped.toNat +
      16 * s.found.toNat + 8 * (eof s .md).toNat + 4 * (eof s .inp).toNat + s.mode.code.toNat := by
  have fields : ∀ (e : BitVec 8) (b7 b6 b5 b4 b3 b2 : BitVec 1) (m : BitVec 2),
      (0#16 ++ e ++ b7 ++ b6 ++ b5 ++ b4 ++ b3 ++ b2 ++ m : BitVec (16 + 8 + 1 + 1 + 1 + 1 + 1 + 1 + 2)).toNat =
        256 * e.toNat + 128 * b7.toNat + 64 * b6.toNat + 32 * b5.toNat + 16 * b4.toNat + 8 * b3.toNat + 4 * b2.toNat +
          m.toNat := by
    intro e b7 b6 b5 b4 b3 b2 m
    simp only [toNat_append_eq, BitVec.toNat_ofNat]
    omega
  have h := fields (s.err.extractLsb' 0 8) (bit s.mdValid) (bit s.frmValid) (bit s.stopped) (bit s.found)
    (bit (eof s .md)) (bit (eof s .inp)) s.mode.code
  simp only [bit_toNat, BitVec.extractLsb'_toNat, Nat.shiftRight_zero] at h
  exact h

/-- A bit of a word, from the word as a number. -/
theorem getLsbD_of_toNat {w : Word} {k : Nat} {b : Bool} (h : w.toNat / 2 ^ k % 2 = b.toNat) : w.getLsbD k = b := by
  rw [BitVec.getLsbD, Nat.testBit_eq_decide_div_mod_eq, h]
  cases b <;> rfl

/-- The fields of the STATUS word (R38). -/
theorem statusWord_fields (s : State) :
    (statusWord s).extractLsb' 0 2 = s.mode.code ∧ (statusWord s).getLsbD 2 = eof s .inp ∧
    (statusWord s).getLsbD 3 = eof s .md ∧ (statusWord s).getLsbD 4 = s.found ∧ (statusWord s).getLsbD 5 = s.stopped ∧
    (statusWord s).getLsbD 6 = s.frmValid ∧ (statusWord s).getLsbD 7 = s.mdValid ∧
    (statusWord s).extractLsb' 8 8 = s.err.extractLsb' 0 8 ∧ (statusWord s).extractLsb' 16 16 = 0 := by
  have hw := statusWord_toNat s
  have hmode := s.mode.code.isLt
  have hin := Bool.toNat_lt (eof s .inp)
  have hmd := Bool.toNat_lt (eof s .md)
  have hfound := Bool.toNat_lt s.found
  have hstopped := Bool.toNat_lt s.stopped
  have hfrm := Bool.toNat_lt s.frmValid
  have hvalid := Bool.toNat_lt s.mdValid
  refine ⟨BitVec.eq_of_toNat_eq ?_, getLsbD_of_toNat (by omega), getLsbD_of_toNat (by omega),
    getLsbD_of_toNat (by omega), getLsbD_of_toNat (by omega), getLsbD_of_toNat (by omega), getLsbD_of_toNat (by omega),
    BitVec.eq_of_toNat_eq ?_, BitVec.eq_of_toNat_eq ?_⟩ <;>
    simp only [BitVec.extractLsb'_toNat, Nat.shiftRight_eq_div_pow, BitVec.ofNat_eq_ofNat, BitVec.toNat_ofNat] <;> omega

/-- The interrupt line bit by bit (R49). -/
theorem irqLine_eq (s : State) : irqLine s =
    ((s.irqStatus.getLsbD 0 && s.irqEnable.getLsbD 0) || (s.irqStatus.getLsbD 1 && s.irqEnable.getLsbD 1) ||
      (s.irqStatus.getLsbD 2 && s.irqEnable.getLsbD 2)) := by
  have bits : ∀ a b : BitVec 3, decide (a &&& b ≠ 0) =
      ((a.getLsbD 0 && b.getLsbD 0) || (a.getLsbD 1 && b.getLsbD 1) || (a.getLsbD 2 && b.getLsbD 2)) := by decide
  exact bits s.irqStatus s.irqEnable

end Sys2Proof.Machine

namespace Sys2Proof.Proofs

open Sys2Proof.Machine Sys2Proof.Safety

/-- Settles O3: a write to CMD runs the word, and a word that decodes is its command. -/
theorem stepRunsTheDecodedCommand : Obligations.StepRunsTheDecodedCommand := fun s w _ _ hmoves hdecode => by
  rw [step_write_cmd hmoves, runWord_of_ok hdecode]

/-- Settles O4: a word that decodes is its command's word, so this one is refused, by the mode or as illegal. -/
theorem otherWordsAreIllegal : Obligations.OtherWordsAreIllegal := by
  intro s w ms hmoves hw
  have hone : w &&& 0xFF = 0x01 ↔ opcOf w = 1#8 := lowByte_eq_iff (b := 1#8)
  have hfour : w &&& 0xFF = 0x04 ↔ opcOf w = 4#8 := lowByte_eq_iff (b := 4#8)
  rw [step_illegalWord hmoves hw, hone, hfour, illegalWord, Ready]
  refine ⟨fun h => ?_, fun h1 h => ?_⟩
  · have hm : ¬ modeRefuses s.mode (opcOf w) = true := by
      rw [modeRefuses_iff]
      rcases h with (h | h) | h | ⟨h, h4⟩ <;> simp [h]
      exact fun _ => h4
    rw [if_neg hm, record, errWord_command, and_lowByte]
    rfl
  · have hm : modeRefuses s.mode (opcOf w) = true := by
      rw [modeRefuses_iff]
      exact h.imp (fun h => ⟨h, mt hone.2 h1⟩) fun ⟨h, h4⟩ => ⟨h, mt hone.2 h1, mt hfour.2 h4⟩
    rw [if_pos hm, record, errWord_command, and_lowByte]
    rfl

/-- Settles O54: the registers and fields by evaluation, the invariants by what each asks of power-on. -/
theorem resetState : Obligations.ResetState := by
  have ⟨harrays, hspectra⟩ := (spectraFit_iff _).1 spectraFit_reset
  have hmem : MemoryOk State.reset := ⟨⟨.nil, nofun⟩, nofun⟩
  have hstages : StagesOk State.reset :=
    stagesOk_clearStages (s := State.reset) ⟨rfl, rfl, rfl⟩ nofun (fun _ => ⟨rfl, rfl⟩) (Nat.zero_le _) (Nat.zero_le _)
  have houtputs : OutputsOk State.reset := ⟨rfl, nofun, emptyPcm_granules, nofun, fun _ => rfl, nofun⟩
  refine ⟨rfl, rfl, rfl, rfl, by decide, rfl, rfl, rfl, rfl, rfl, rfl, rfl, rfl, rfl, rfl, rfl, rfl, rfl, rfl, rfl, rfl,
    rfl, fun g c => ⟨PerPart.get_const _ g c, PerPart.get_const _ g c⟩, fun c => ?_, rfl, rfl, rfl, rfl, rfl, rfl, hmem,
    harrays, hspectra, hstages, houtputs, .inl rfl, .inl rfl⟩
  cases c <;> exact ⟨rfl, rfl, rfl⟩

/-- Settles O55: each access by the register it names, STATUS by the sum of its fields. -/
theorem registerMap : Obligations.RegisterMap := by
  intro s v ms
  obtain ⟨hmode, hin, hmd, hfound, hstopped, hfrm, hvalid, herr, hreserved⟩ := statusWord_fields s
  have write : ∀ {off : Nat}, off ≠ 0 → s.moves = .write off v :: ms →
      step s = writeReg off v { s with moves := ms } := fun h hmoves => step_hostMove hmoves (commandWord_write h)
  refine ⟨write (by decide), write (by decide), fun hmoves => ?_, fun hmoves => ?_, fun hmoves => ?_,
    fun off hoff hmoves => ?_, fun off hmoves => step_hostMove hmoves rfl, fun off hoff => readReg_other hoff s, rfl,
    rfl, rfl, rfl, rfl, rfl, rfl, rfl, fun k hk => ?_, hmode, hin, hmd, hfound, hstopped, hfrm, hvalid, herr, hreserved,
    irqLine_eq s⟩
  · rw [write (by decide) hmoves]
    have hready := hostMayWriteInput_iff { s with moves := ms }
    refine ⟨fun h => ?_, fun h => ?_⟩
    · simp [writeReg, writeInLen, hready.2 h]
    · simp [writeReg, writeInLen, mt hready.1 h]
  · refine ⟨_, write (by decide) hmoves, fun k hk => ?_⟩
    simp [hk]
  · refine ⟨_, write (by decide) hmoves, fun k hk => ?_⟩
    simp [hk]
  · rw [write (fun h => hoff (by simp [h])) hmoves, writeReg_other hoff]
  · simp [readReg, hk]

end Sys2Proof.Proofs

/-! # The memory family, part 1: the reader's bits -/

namespace Sys2Proof.Machine

open Sys2Proof.Safety

/-! ## Streams -/

/-- The bytes the reader reads are the stream's (R250). -/
theorem src_byte (s : State) (r : Reader) (a : Nat) : (src s r).byte a = streamByte s r a := by
  cases r <;> rfl

theorem src_len (s : State) (r : Reader) : (src s r).len = streamLen s r := by
  cases r <;> rfl

/-- The bit the reader reads is the stream's (R105). -/
theorem bitAt_src (s : State) (r : Reader) (q : Nat) : decide (bitAt (src s r) q = 1) = streamBit s r q := by
  rw [bitAt, src_byte, streamBit, BitVec.getLsbD, Nat.testBit_eq_decide_div_mod_eq]

/-- The first bits of an aligned byte are its high bits (R105). -/
theorem bitsAt_aligned {src : Src} {p n : Nat} (hp : p % 8 = 0) (hn : n ≤ 8) :
    bitsAt src p n = (src.byte (p / 8)).toNat / 2 ^ (8 - n) := by
  induction n with
  | zero => exact (Nat.div_eq_of_lt (src.byte (p / 8)).isLt).symm
  | succ n ih =>
    have hbyte : (p + n) / 8 = p / 8 := by omega
    have hbit : 7 - (p + n) % 8 = 8 - (n + 1) := by omega
    have hpow : 2 ^ (8 - n) = 2 ^ (8 - (n + 1)) * 2 := by rw [← Nat.pow_succ]; congr 1; omega
    rw [bitsAt_succ, ih (by omega), bitAt, hbyte, hbit, hpow, ← Nat.div_div_eq_div_mul]
    exact Nat.div_add_mod _ 2

/-- A successful BitRead had its bits, and answers them (R251). -/
theorem bitRead_eq_ok {src : Src} {n p u q : Nat} :
    bitRead src n p = .ok u q ↔ (n = 0 ∨ p + n ≤ src.len) ∧ u = bitsAt src p n ∧ q = p + n := by
  rcases bitRead_cases src n p with ⟨hn, h⟩ | ⟨hn, hlen, h⟩ <;> rw [h]
  · simp [hn, eq_comm]
  · refine ⟨nofun, fun h => ?_⟩
    omega

/-! ## Positions and words -/

theorem readerPos_setPos (s : State) (r : Reader) (p : Nat) : readerPos (setPos s r p) r = p := by cases r <;> rfl

theorem setPos_readerPos (s : State) (r : Reader) : setPos s r (readerPos s r) = s := by cases r <;> rfl

theorem setResults_setPos (v w : Word) (s : State) (r : Reader) (p : Nat) :
    setResults v w (setPos s r p) = setPos { s with result0 := v, result1 := w } r p := by cases r <;> rfl

/-- A mode that accepts unit commands refuses no opcode (R35, R215). -/
theorem modeRefuses_of_ready {s : State} (h : Ready s) (opc : BitVec 8) : modeRefuses s.mode opc = false := by
  rcases h with h | h <;> rw [h]
  · exact modeRefuses_idle opc
  · exact modeRefuses_done opc

/-- The bits of a word read from a stream: the stream's, first bit most significant, under zeros (R105). -/
theorem wordOfNat_bitsAt (src : Src) (p : Nat) {n : Nat} (hn : n ≤ 32) :
    (∀ k < n, (wordOfNat (bitsAt src p n)).getLsbD (n - 1 - k) = decide (bitAt src (p + k) = 1)) ∧
      ∀ k, n ≤ k → (wordOfNat (bitsAt src p n)).getLsbD k = false := by
  refine ⟨fun k hk => ?_, fun k hk => ?_⟩
  · have hlt : n - 1 - k < 32 := by omega
    rw [wordOfNat, BitVec.getLsbD_ofNat, bitsAt_testBit src p n k hk, decide_eq_true hlt, Bool.true_and]
  · have hlt : bitsAt src p n < 2 ^ k := lt_of_lt_of_le (bitsAt_lt src p n) (Nat.pow_le_pow_right (by decide) hk)
    rw [wordOfNat, BitVec.getLsbD_ofNat, Nat.testBit_lt_two_pow hlt, Bool.and_false]

/-! ## BR_READ_BITS -/

section
variable {r : Reader} {n : BitVec 6} {s : State} (hs : Ready s)
include hs

/-- BR_READ_BITS of bits that are there (R252). -/
theorem exec_brReadBits_ok (hn : n.toNat ≤ 32) (h : n.toNat = 0 ∨ readerPos s r + n.toNat ≤ streamLen s r) :
    exec (.brReadBits r n) s = .next (setPos
      { s with result0 := wordOfNat (bitsAt (src s r) (readerPos s r) n.toNat)
               result1 := wordOfNat (readerPos s r + n.toNat) } r (readerPos s r + n.toNat)) := by
  have hread := onReader_ok (f := fun src => bitRead src n.toNat) (bitRead_ok (src_len s r ▸ h))
  refine command_ok (modeRefuses_of_ready hs 0x10) ?_
  rw [Act.bind_of_ok (Act.need_of_true (s := s) (decide_eq_true hn)), Act.bind_of_ok hread, Act.modify_apply,
    readerPos_setPos, setResults_setPos]

/-- BR_READ_BITS of more bits than are there (R251, R253). -/
theorem exec_brReadBits_short (hn : n.toNat ≤ 32) (h0 : n.toNat ≠ 0) (h : streamLen s r < readerPos s r + n.toNat) :
    exec (.brReadBits r n) s = .next (record .unexpectedEnd .stream 0x10 s) := by
  have hread := onReader_err (f := fun src => bitRead src n.toNat) (bitRead_short h0 (src_len s r ▸ h))
  rw [setPos_readerPos] at hread
  refine command_err (main := false) (modeRefuses_of_ready hs 0x10) ?_
  rw [Act.bind_of_ok (Act.need_of_true (s := s) (decide_eq_true hn)), Act.bind_of_err hread]

/-- BR_READ_BITS of more than 32 bits (R252). -/
theorem exec_brReadBits_wide (hn : 32 < n.toNat) :
    exec (.brReadBits r n) s = .next (record .illegalCommand .command 0x10 s) :=
  command_err (main := false) (modeRefuses_of_ready hs 0x10)
    (Act.bind_of_err (Act.need_of_false (decide_eq_false (Nat.not_le.2 hn))))

end

end Sys2Proof.Machine

namespace Sys2Proof.Proofs

open Sys2Proof.Machine Sys2Proof.Safety

/-- Settles O12: the three ways the command's check and its BitRead can end. -/
theorem readBits : Obligations.ReadBits := by
  intro r n s hs
  refine ⟨fun hn h => ⟨_, exec_brReadBits_ok hs hn h, ?_⟩, fun hn h0 h => exec_brReadBits_short hs hn h0 h,
    fun hn => exec_brReadBits_wide hs hn⟩
  obtain ⟨hbits, hzeros⟩ := wordOfNat_bitsAt (src s r) (readerPos s r) hn
  exact ⟨fun k hk => (hbits k hk).trans (bitAt_src s r _), hzeros⟩

/-- Settles O13: both reads of a + b bits answer the string of bits there, cut at a. -/
theorem readsCompose : Obligations.ReadsCompose := by
  refine ⟨fun src p a b _ => ⟨fun u v q r hu hv => ?_, fun x r ha hb hx => ?_⟩, fun src p hp hlen => ⟨?_, ?_⟩⟩
  · obtain ⟨hlen, rfl, rfl⟩ := bitRead_eq_ok.1 hu
    obtain ⟨hlen', rfl, rfl⟩ := bitRead_eq_ok.1 hv
    exact bitRead_eq_ok.2 ⟨by omega, (bitsAt_add src p a b).symm, by omega⟩
  · obtain ⟨hlen, rfl, rfl⟩ := bitRead_eq_ok.1 hx
    exact ⟨_, _, _, bitRead_ok (by omega), bitRead_eq_ok.2 ⟨by omega, rfl, by omega⟩, bitsAt_add src p a b⟩
  · rw [bitRead_ok (.inr hlen), bitsAt_aligned hp le_rfl]
    simp
  · exact byteRead_ok hp (.inr hlen)

end Sys2Proof.Proofs

/-! # The memory family, part 2: what only the host writes -/

namespace Sys2Proof.Machine

open Sys2Proof.Safety

/-! ## The host's side of the state -/

/-- The fields no unit of the block writes: IN and its length, the parameters, the model's lists, and the host's own
registers (R7, R36, R45, R47, R50, R101, log 7). -/
structure HostSide where
  inLen     : Word
  mem       : Memory
  cfg       : Config.Params
  moves     : List Move
  readLog   : List (Nat × Word)
  arg       : Word
  bandMask  : Word
  irqEnable : BitVec 3

/-- The host's side of a state. -/
def State.hostSide (s : State) : HostSide where
  inLen := s.inLen
  mem := s.mem
  cfg := s.cfg
  moves := s.moves
  readLog := s.readLog
  arg := s.arg
  bandMask := s.bandMask
  irqEnable := s.irqEnable

theorem Change.hostSide {s t : State} (h : Change s t) : t.hostSide = s.hostSide := by
  cases h with
  | seek r p _ => cases r <;> rfl
  | resolve _ _ ht => rw [(resolve_ok ht).2]; rfl
  | stage => rw [stageDone_eq]; rfl
  | _ => rfl

theorem Reaches.hostSide {opc : BitVec 8} {s t : State} (h : Reaches opc s t) : t.hostSide = s.hostSide :=
  h.keeps (P := fun u => u.hostSide = s.hostSide) (fun _ _ hc hu => hc.hostSide.trans hu) (fun _ _ _ hu => hu) rfl

theorem ModeChange.hostSide {s t : State} (h : ModeChange s t) : t.hostSide = s.hostSide := by
  rw [h.frame.1]
  rfl

/-- The sequencer never writes the host's side (R201, R203). -/
theorem sequencerTurn_hostSide {s t : State} (h : sequencerTurn s = .next t) : t.hostSide = s.hostSide := by
  obtain ⟨u, hu, hmode⟩ := sequencerTurn_outcome h
  exact hmode.hostSide.trans hu.hostSide

theorem sequencerTurn_next (s : State) : ∃ t, sequencerTurn s = .next t := by
  unfold sequencerTurn
  split <;> exact ⟨_, rfl⟩

/-- No command but RESET writes the host's side (R36, R45, R50, R101). -/
theorem exec_hostSide {i : Instr} (hreset : i ≠ .reset) {s t : State} (h : exec i s = .next t) :
    t.hostSide = s.hostSide := by
  by_cases hrun : i = .run
  · subst hrun
    rcases exec_run h with rfl | rfl <;> rfl
  · obtain ⟨u, hu, hmode⟩ := exec_reaches hreset hrun h
    exact hmode.hostSide.trans hu.hostSide

/-- No command writes IN (R101). -/
theorem exec_mem {i : Instr} {s t : State} (h : exec i s = .next t) : t.mem = s.mem := by
  by_cases hreset : i = .reset
  · rw [hreset, exec_reset] at h
    cases h
    rfl
  · exact congrArg HostSide.mem (exec_hostSide hreset h)

/-! ## Writes of IN -/

theorem Memory.mem_write {m : Memory} {a : Nat} {v : Byte} {c : Host.Cell} (h : c ∈ m.write a v) :
    c = (a, v) ∨ c ∈ m := by
  unfold Memory.write at h
  split at h
  · exact .inr (Memory.erase_subset m a c h)
  · exact (Memory.mem_insert h).imp id (Memory.erase_subset m a c)

/-- All a host write of IN can do: outside a run the byte is written (R101, R119); in a run, or where there is no byte,
the model stops (R100, R680, log 8). -/
theorem writeInput_outcomes (a : Nat) (b : Byte) (s : State) :
    (Ready s → a < s.cfg.inMax → writeInput a b s = .next { s with mem := s.mem.write a b }) ∧
    (¬ Ready s → writeInput a b s = .refused .hostDutyDuringRun) ∧
    (Ready s → s.cfg.inMax ≤ a → writeInput a b s = .fault .inAddressAbsent) := by
  rw [← hostMayWriteInput_iff]
  refine ⟨fun hs ha => ?_, fun hs => ?_, fun hs ha => ?_⟩
  · simp [writeInput, hs, Nat.not_le.2 ha]
  · simp [writeInput, hs]
  · simp [writeInput, hs, ha]

/-- A host write of a register leaves IN alone (R33). -/
theorem writeReg_mem {off : Nat} {v : Word} {s t : State} (h : writeReg off v s = .next t) : t.mem = s.mem := by
  unfold writeReg at h
  split at h
  case h_3 =>
    unfold writeInLen at h
    split at h
    · exact absurd h nofun
    · cases h
      rfl
  all_goals
    cases h
    rfl

/-! ## IN through a step -/

/-- All that one step does to IN: nothing, one byte the host writes below IN_MAX, or power-on (R64, R101). -/
inductive InputStep (s t : State) : Prop
  | same (h : t.mem = s.mem)
  | write (a : Nat) (b : Byte) (ha : a < s.cfg.inMax) (h : t.mem = s.mem.write a b)
  | powerOn (h : t.mem = [])

theorem runWord_mem {w : Word} {s t : State} (h : runWord w s = .next t) : t.mem = s.mem := by
  cases hd : decode w with
  | ok i =>
    rw [runWord_of_ok hd] at h
    exact exec_mem h
  | error e =>
    rw [runWord_of_error hd] at h
    cases h
    exact congrArg HostSide.mem (illegalWord_reaches w s).hostSide

theorem writeInput_inputStep {a : Nat} {b : Byte} {s t : State} (h : writeInput a b s = .next t) : InputStep s t := by
  unfold writeInput at h
  split_ifs at h with _ ha
  cases h
  exact .write a b (Nat.not_le.1 ha) rfl

theorem hostMove_inputStep {m : Move} {s t : State} (h : hostMove m s = .next t) : InputStep s t := by
  cases m with
  | write off v => exact .same (writeReg_mem h)
  | read off =>
    cases h
    exact .same rfl
  | writeIn a b => exact writeInput_inputStep h
  | sequencer => exact .same (congrArg HostSide.mem (sequencerTurn_hostSide h))
  | powerOn =>
    cases h
    exact .powerOn rfl

theorem perform_inputStep {m : Move} {s t : State} (h : perform m s = .next t) : InputStep s t := by
  unfold perform at h
  split at h
  · exact .same (runWord_mem h)
  · exact hostMove_inputStep h

/-- With no move pending a step is the sequencer's turn (log 7). -/
theorem step_sequencer {s : State} (h : s.moves = []) : step s = sequencerTurn s := by rw [step, h]

/-- A step's move is taken off the list first, which leaves IN and the parameters alone. -/
theorem step_inputStep {s t : State} (h : step s = .next t) : InputStep s t := by
  cases hmoves : s.moves with
  | nil =>
    rw [step_sequencer hmoves] at h
    exact .same (congrArg HostSide.mem (sequencerTurn_hostSide h))
  | cons m ms =>
    rw [step, hmoves] at h
    cases perform_inputStep h with
    | same h => exact .same h
    | write a b ha h => exact .write a b ha h
    | powerOn h => exact .powerOn h

/-- No step changes a parameter (R7). -/
theorem step_cfg {s t : State} (h : step s = .next t) : t.cfg = s.cfg := by
  refine step_keeps (P := fun u => u.cfg = s.cfg) (fun u v hc hu => ?_) (fun u v hc hu => ?_)
    (fun u v hc hu => ?_) (fun _ _ _ _ hu => hu) (fun u v hc hu => ?_) rfl h
  · rw [hc]; exact hu
  · cases hc <;> exact hu
  · exact (congrArg HostSide.cfg hc.hostSide).trans hu
  · exact (congrArg HostSide.cfg hc.hostSide).trans hu

end Sys2Proof.Machine

namespace Sys2Proof.Proofs

open Sys2Proof.Machine Sys2Proof.Safety

/-- Settles O8: no change a command or a turn of the sequencer is made of reaches the host's side of the state. -/
theorem commandsLeaveHostStateAlone : Obligations.CommandsLeaveHostStateAlone := by
  refine ⟨fun i s t h => ?_, fun s hmoves => ?_⟩
  · by_cases hreset : i = .reset
    · rw [hreset, exec_reset] at h
      cases h
      exact ⟨rfl, fun _ => rfl, rfl, rfl, rfl, fun hne => absurd hreset hne⟩
    · injection exec_hostSide hreset h with hlen hmem hcfg hmoves hlog harg hmask henable
      exact ⟨hlen, fun a => by rw [hmem], hcfg, hmoves, hlog, fun _ => ⟨harg, hmask, henable⟩⟩
  · obtain ⟨t, ht⟩ := sequencerTurn_next s
    injection sequencerTurn_hostSide ht with hlen hmem hcfg hmoves' hlog harg hmask henable
    exact ⟨t, (step_sequencer hmoves).trans ht, hlen, fun a => by rw [hmem], hcfg, hmoves'.trans hmoves, hlog, harg,
      hmask, henable⟩

/-- Settles O56: the move is the write of one byte, read back by the laws of IN. -/
theorem hostWritesInput : Obligations.HostWritesInput := by
  intro s a b ms hmoves hwf
  have hstep : step s = writeInput a b { s with moves := ms } := step_hostMove hmoves rfl
  obtain ⟨hwrite, hrun, habsent⟩ := writeInput_outcomes a b { s with moves := ms }
  rw [hstep]
  refine ⟨fun hs ha => ⟨s.mem.write a b, Memory.wf_write hwf a b, hwrite hs ha, ?_⟩, hrun, habsent⟩
  exact ⟨Memory.read_write_self hwf a b, fun _ hne => Memory.read_write_ne s.mem b hne⟩

/-- Settles O57: of what a step does to IN, the host's write keeps the canonical form and adds an address below
IN_MAX. -/
theorem memoryKept : Obligations.MemoryKept := by
  intro s t ⟨hwf, hbelow⟩ hstep
  have hcfg := step_cfg hstep
  refine ⟨?_, hcfg⟩
  rw [MemoryOk, hcfg]
  cases step_inputStep hstep with
  | same h => rw [h]; exact ⟨hwf, hbelow⟩
  | write a b ha h =>
    rw [h]
    refine ⟨Memory.wf_write hwf a b, fun c hc => ?_⟩
    rcases Memory.mem_write hc with rfl | hc
    · exact ha
    · exact hbelow c hc
  | powerOn h => rw [h]; exact ⟨⟨.nil, nofun⟩, nofun⟩

end Sys2Proof.Proofs

/-! # The encoding family, part 1: commands and their words -/

namespace Sys2Proof.Machine

open Sys2Proof.Safety

/-- Every command's word decodes to it, with every operand (R141, R142, R144). -/
theorem decode_encode (i : Instr) : decode (encode i) = .ok i := by
  cases i with
  | brReadBits r n => revert n; cases r <;> decide
  | brReadBytes r | brSeek r | brFindByte r | brTell r | brEof r => cases r <;> rfl
  | stereo g => cases g <;> rfl
  | huffGranule g c | scalefac g c | requant g c | reorder g c | antialias g c | hybrid g c | freqinv g c
  | synth g c => cases g <;> cases c <;> rfl
  | nop | reset | run | step | reply | parseHeader | parseSideinfo | parseFrame | resolve | histPush | huffPair
  | huffQuad | maindata | reconstruct => rfl

/-! ## The channel check -/

/-- The commands with a channel select begin with the check for a current frame and a channel it has (R146, R623). -/
theorem exec_needPart {i : Instr} {c : Chan} (hc : channelOf i = some c) (s : State) :
    ∃ main body, exec i s = command i.opcode main ((needPart c).bind body) s := by
  cases i with
  | scalefac g d | huffGranule g d | requant g d | reorder g d | antialias g d | hybrid g d | freqinv g d
  | synth g d =>
    obtain rfl : d = c := Option.some.inj hc
    exact ⟨_, _, rfl⟩
  | _ => exact absurd hc nofun

/-- A command with a channel select whose check for the frame and the channel raises a command error records it and does
nothing else (R622, R623). -/
theorem exec_of_needPart_err {i : Instr} {c : Chan} {s : State} {e : Err} (hs : Ready s) (hc : channelOf i = some c)
    (he : ∀ main, e.cls main = .command) (h : needPart c s = .err e s) :
    exec i s = .next (record e .command i.opcode s) := by
  obtain ⟨main, body, hi⟩ := exec_needPart hc s
  rw [hi, command_err (modeRefuses_of_ready hs i.opcode) (Act.bind_of_err h), he]

end Sys2Proof.Machine

namespace Sys2Proof.Proofs

open Sys2Proof.Machine Sys2Proof.Safety

/-- Settles O1: a word that decodes is its command's word, and a command's word decodes to it. -/
theorem eachCommandHasOneWord : Obligations.EachCommandHasOneWord := fun _ i =>
  ⟨fun h => (encode_of_decode h).symm, fun h => h ▸ decode_encode i⟩

/-- Settles O2: thirteen of the words are the words of their commands, and two are refused. -/
theorem sampleWordsDecode : Obligations.SampleWordsDecode :=
  ⟨decode_encode .nop, decode_encode .reset, decode_encode .step, decode_encode (.brReadBits .inp 12),
    decode_encode (.brReadBits .md 1), decode_encode (.brSeek .md), decode_encode .parseFrame, decode_encode .huffPair,
    decode_encode (.huffGranule .g1 .c0), decode_encode (.scalefac .g0 .c1), decode_encode (.requant .g1 .c1),
    decode_encode (.stereo .g1), decode_encode .reconstruct, by decide, by decide⟩

/-- Settles O7: the check for the frame comes first in all eight commands, then the one for the channel. -/
theorem secondChannelOfMonoIsIllegal : Obligations.SecondChannelOfMonoIsIllegal := by
  intro i s hs hc
  refine ⟨fun hframe hmono => ?_, fun hframe => ?_⟩
  · have hcheck : needPart .c1 s = .err .illegalCommand s := needPart_noChannel hframe (by simp [chanLegal, hmono])
    rw [exec_of_needPart_err hs hc (fun _ => rfl) hcheck, record, errWord_command]
    rfl
  · rw [exec_of_needPart_err hs hc (fun _ => rfl) (needPart_noFrame hframe), record, errWord_command]
    rfl

end Sys2Proof.Proofs

/-! # The encoding family, part 2: the side information -/

namespace Sys2Proof.Machine

open Sys2Proof.Safety

/-! ## Places

Where a reader action finds its answer: its answers satisfy a property of the bits at its place, and a success takes
them all (R251). -/

/-- When `x` succeeds at position `p` of `src`, it takes the `n` bits there, which the stream has, and its answer
satisfies `V`. -/
def Takes {α : Type} (src : Src) (p n : Nat) (x : Rd α) (V : α → Prop) : Prop :=
  ∀ a q, x p = .ok a q → q = p + n ∧ (n = 0 ∨ q ≤ src.len) ∧ V a

namespace Takes

variable {α β : Type} {src : Src} {p n m : Nat} {V : α → Prop} {W : β → Prop}

theorem pure {a : α} (h : V a) : Takes src p 0 (Act.pure a) V := by
  rintro _ _ ⟨⟩
  exact ⟨rfl, .inl rfl, h⟩

/-- One read after another takes the bits of both, the second's right after the first's. -/
theorem bind {x : Rd α} {f : α → Rd β} (hx : Takes src p n x V) (hf : ∀ a, V a → Takes src (p + n) m (f a) W) :
    Takes src p (m + n) (x.bind f) W := by
  intro b r h
  obtain ⟨a, q, ha, hb⟩ := Act.bind_eq_ok.1 h
  obtain ⟨rfl, hn, hV⟩ := hx a q ha
  obtain ⟨rfl, hm, hW⟩ := hf a hV b r hb
  exact ⟨by omega, by omega, hW⟩

/-- A value made of an answer takes the answer's bits. -/
theorem bind_pure {x : Rd α} {f : α → β} (hx : Takes src p n x V) (hf : ∀ a, V a → W (f a)) :
    Takes src p n (x.bind fun a => Act.pure (f a)) W := by
  rw [← Nat.zero_add n]
  exact hx.bind fun a ha => pure (hf a ha)

theorem check {x : Rd α} (hx : Takes src p n x V) (c : α → Bool) (e : Err) : Takes src p n (x.check c e) V :=
  fun a q h => hx a q (Act.check_eq_ok.1 h).1

/-- Items in a row, each of `n` bits: item `i` is at the `i`-th place. -/
theorem replicate {f : Rd α} {V : Nat → α → Prop} (hf : ∀ p, Takes src p n f (V p)) (k p : Nat) :
    Takes src p (k * n) (Act.repeat f k) fun l => l.length = k ∧ ∀ i < k, ∀ d, V (p + n * i) (l.getD i d) := by
  induction k generalizing p with
  | zero => rw [Nat.zero_mul]; exact pure ⟨rfl, nofun⟩
  | succ k ih =>
    rw [Nat.succ_mul]
    refine (hf p).bind fun a ha => ?_
    refine (ih (p + n)).bind_pure fun l ⟨hlen, hl⟩ => ⟨congrArg Nat.succ hlen, fun i hi d => ?_⟩
    cases i with
    | zero => exact ha
    | succ i => rw [Nat.mul_succ, Nat.add_comm _ n, ← Nat.add_assoc]; exact hl i (Nat.lt_of_succ_lt_succ hi) d

end Takes

section
variable (src : Src)

theorem bitRead_takes (n p : Nat) : Takes src p n (bitRead src n) (· = bitsAt src p n) := by
  intro a q h
  obtain ⟨hn, rfl, rfl⟩ := bitRead_eq_ok.1 h
  exact ⟨rfl, hn, rfl⟩

theorem readField_takes (w p : Nat) : Takes src p w (readField src w) (·.toNat = bitsAt src p w) := by
  refine (bitRead_takes src w p).bind_pure fun v hv => ?_
  rw [BitVec.toNat_ofNat, hv, Nat.mod_eq_of_lt (bitsAt_lt src p w)]

theorem readFlag_takes (p : Nat) : Takes src p 1 (readFlag src) (· = decide (bitAt src p = 1)) := by
  refine (bitRead_takes src 1 p).bind_pure fun v hv => ?_
  rw [hv, bitsAt_succ, bitsAt_zero, Nat.mul_zero, Nat.zero_add, Nat.add_zero]

/-! ## Granule-channel blocks -/

/-- The fields of a split block after its flag are at their places from `b` on (R166). -/
theorem parseSplitFields_takes (b : Nat) : Takes src b 22 (parseSplitFields src) fun (blockType, switchPoint, t, g) =>
    blockType.toNat = bitsAt src b 2 ∧ switchPoint = decide (bitAt src (b + 2) = 1) ∧
    t.x0.toNat = bitsAt src (b + 3) 5 ∧ t.x1.toNat = bitsAt src (b + 8) 5 ∧ t.x2 = 0 ∧
    g.x0.toNat = bitsAt src (b + 13) 3 ∧ g.x1.toNat = bitsAt src (b + 16) 3 ∧ g.x2.toNat = bitsAt src (b + 19) 3 := by
  refine ((readField_takes src 2 b).check _ _).bind fun blockType hblock => ?_
  refine ((readFlag_takes src _).check _ _).bind fun switchPoint hswitch => ?_
  refine (readField_takes src 5 _).bind fun t0 ht0 => ?_
  refine (readField_takes src 5 _).bind fun t1 ht1 => ?_
  refine (readField_takes src 3 _).bind fun g0 hg0 => ?_
  refine (readField_takes src 3 _).bind fun g1 hg1 => ?_
  exact (readField_takes src 3 _).bind_pure fun g2 hg2 => ⟨hblock, hswitch, ht0, ht1, rfl, hg0, hg1, hg2⟩

/-- The fields of a block that is not split after its flag are at their places from `b` on (R166). -/
theorem parseNormalFields_takes (b : Nat) : Takes src b 22 (parseNormalFields src) fun (t, ra1, ra2) =>
    t.x0.toNat = bitsAt src b 5 ∧ t.x1.toNat = bitsAt src (b + 5) 5 ∧ t.x2.toNat = bitsAt src (b + 10) 5 ∧
    ra1.toNat = bitsAt src (b + 15) 4 ∧ ra2.toNat = bitsAt src (b + 19) 3 := by
  refine (readField_takes src 5 b).bind fun t0 ht0 => ?_
  refine (readField_takes src 5 _).bind fun t1 ht1 => ?_
  refine (readField_takes src 5 _).bind fun t2 ht2 => ?_
  refine (readField_takes src 4 _).bind fun ra1 hra1 => ?_
  exact (readField_takes src 3 _).bind_pure fun ra2 hra2 => ⟨ht0, ht1, ht2, hra1, hra2⟩

/-- The three flags that end a block (R166). -/
theorem blockEnd_takes {mk : Bool → Bool → Bool → GranInfo} {V : GranInfo → Prop} {b : Nat}
    (h : V (mk (decide (bitAt src b = 1)) (decide (bitAt src (b + 1) = 1)) (decide (bitAt src (b + 2) = 1)))) :
    Takes src b 3 ((readFlag src).bind fun preflag => (readFlag src).bind fun scale => (readFlag src).bind fun table =>
      Act.pure (mk preflag scale table)) V := by
  refine (readFlag_takes src b).bind fun preflag hpreflag => ?_
  refine (readFlag_takes src _).bind fun scale hscale => ?_
  refine (readFlag_takes src _).bind_pure fun table htable => ?_
  subst hpreflag hscale htable
  exact h

/-- The region addresses of a split block make 20 together (R299). -/
theorem splitRegionAddress_sum (blockType : BitVec 2) (switchPoint : Bool) :
    (20 - splitRegionAddress1 blockType switchPoint).toNat =
      20 - (splitRegionAddress1 blockType switchPoint).toNat := by
  unfold splitRegionAddress1
  split <;> rfl

/-- A block the parser accepts is the 59 bits at its place (R166, R298, R299). -/
theorem parseGranInfo_takes (b : Nat) : Takes src b 59 (parseGranInfo src) (BlockHolds src b) := by
  refine (readField_takes src 12 b).bind fun part23Length hpart => ?_
  refine (readField_takes src 9 _).bind fun bigValues hbig => ?_
  refine (readField_takes src 8 _).bind fun globalGain hgain => ?_
  refine (readField_takes src 4 _).bind fun scalefacCompress hcompress => ?_
  refine (readFlag_takes src _).bind fun split hsplit => ?_
  cases split with
  | true =>
    rw [if_pos rfl, Act.bind_assoc]
    refine (parseSplitFields_takes src _).bind fun ⟨blockType, switchPoint, t, g⟩ hfields => ?_
    obtain ⟨hblock, hswitch, ht0, ht1, ht2, hg0, hg1, hg2⟩ := hfields
    exact blockEnd_takes src ⟨hpart, hbig, hgain, hcompress, hsplit, fun _ => ⟨hblock, hswitch, ht0, ht1, ht2, hg0, hg1,
      hg2, rfl, splitRegionAddress_sum blockType switchPoint⟩, nofun, rfl, rfl, rfl⟩
  | false =>
    rw [if_neg nofun, Act.bind_assoc]
    refine (parseNormalFields_takes src _).bind fun ⟨t, ra1, ra2⟩ hfields => ?_
    obtain ⟨ht0, ht1, ht2, hra1, hra2⟩ := hfields
    have hra2' : (ra2.zeroExtend 4).toNat = ra2.toNat := BitVec.toNat_setWidth_of_le (by decide)
    exact blockEnd_takes src ⟨hpart, hbig, hgain, hcompress, hsplit, nofun, fun _ => ⟨rfl, rfl, rfl, ht0, ht1, ht2,
      hra1, hra2'.trans hra2⟩, rfl, rfl, rfl⟩

/-! ## Side information -/

theorem parsePrivateBits_takes (nch p : Nat) : Takes src p (if nch = 1 then 5 else 3) (parsePrivateBits src nch)
    (·.toNat = bitsAt src p (if nch = 1 then 5 else 3)) := by
  refine (bitRead_takes src _ p).bind_pure fun v hv => ?_
  have hlt : bitsAt src p (if nch = 1 then 5 else 3) < 2 ^ 5 :=
    (bitsAt_lt src p _).trans_le (Nat.pow_le_pow_right (by decide) (by split <;> decide))
  rw [BitVec.toNat_ofNat, hv, Nat.mod_eq_of_lt hlt]

/-- Four scfsi flags for each channel (R164, R165). -/
theorem scfsi_takes (nch p : Nat) : Takes src p (nch * 4) (Act.repeat (Act.repeat (readFlag src) 4) nch) fun l =>
    l.length = nch ∧ ∀ c < nch, ∀ g < 4, (l.getD c []).getD g false = decide (bitAt src (p + 4 * c + g) = 1) := by
  intro l q h
  obtain ⟨hq, hend, hlen, hl⟩ := Takes.replicate (Takes.replicate (readFlag_takes src) 4) nch p l q h
  exact ⟨hq, hend, hlen, fun c hc g hg => by simpa using (hl c hc []).2 g hg false⟩

/-- Where the granule-channel blocks begin, and their end (R164-R166). -/
theorem sideBits_eq {nch : Nat} (hnch : nch = 1 ∨ nch = 2) :
    sideHead nch = 9 + (if nch = 1 then 5 else 3) + nch * 4 ∧
      sideBits nch = nch * 59 + nch * 59 + nch * 4 + (if nch = 1 then 5 else 3) + 9 := by
  rcases hnch with rfl | rfl <;> exact ⟨rfl, rfl⟩

/-- Side information the parser accepts is the bits at its place (R164-R166, R298, R299). -/
theorem parseSideInfo_takes {nch : Nat} (hnch : nch = 1 ∨ nch = 2) (p : Nat) :
    Takes src p (sideBits nch) (parseSideInfo src nch) (SideInfoHolds src p nch) := by
  obtain ⟨hhead, hbits⟩ := sideBits_eq hnch
  rw [hbits]
  refine (readField_takes src 9 p).bind fun mainDataEnd hend => ?_
  refine (parsePrivateBits_takes src nch _).bind fun privateBits hprivate => ?_
  refine (scfsi_takes src nch _).bind fun scfsi ⟨hscfsi, hflags⟩ => ?_
  refine (Takes.replicate (parseGranInfo_takes src) nch _).bind fun gr0 ⟨hgr0, hblocks0⟩ => ?_
  refine (Takes.replicate (parseGranInfo_takes src) nch _).bind_pure fun gr1 ⟨hgr1, hblocks1⟩ => ?_
  refine ⟨hend, hprivate, hscfsi, hgr0, hgr1, fun c hc g hg => ?_, fun g c hc => ?_⟩
  · have hplace : p + (sideHead nch - 4 * nch) = p + 9 + (if nch = 1 then 5 else 3) := by omega
    rw [hplace]
    exact hflags c hc g hg
  · have hplace (k : Nat) : blockAt p nch k = p + 9 + (if nch = 1 then 5 else 3) + nch * 4 + 59 * k := by
      rw [blockAt, hhead]
      omega
    cases g with
    | g0 =>
      rw [hplace, granIdx, Nat.mul_zero, Nat.zero_add]
      exact hblocks0 (chanIdx c) hc _
    | g1 =>
      rw [hplace, granIdx, Nat.mul_one, Nat.mul_add, Nat.mul_comm 59 nch, ← Nat.add_assoc]
      exact hblocks1 (chanIdx c) hc _

end

end Sys2Proof.Machine

namespace Sys2Proof.Proofs

open Sys2Proof.Machine Sys2Proof.Safety

/-- Settles O19: each part of a successful parse takes its own bits, the next part begins right after them, and the
stream has them all. -/
theorem sideInfoFields : Obligations.SideInfoFields := by
  intro src nch p q si hnch h
  obtain ⟨hq, hlen, hfields⟩ := parseSideInfo_takes src hnch p si q h
  have hpos : sideBits nch ≠ 0 := by rcases hnch with rfl | rfl <;> decide
  exact ⟨hq, hlen.resolve_left hpos, hfields⟩

end Sys2Proof.Proofs

/-! # The driver family, part 1: what reconstruction and main data write -/

namespace Sys2Proof.Machine

open Sys2Proof.Safety

/-! ## The reconstruction chain -/

/-- Only the fields that the DSP stages write differ (R57-R60, R590). -/
def ChainOnly (s t : State) : Prop :=
  t = { s with xr := t.xr, tag := t.tag, ovl := t.ovl, vh := t.vh, outPcm := t.outPcm, outInter := t.outInter }

theorem ChainOnly.trans {s t u : State} (h : ChainOnly s t) (h' : ChainOnly t u) : ChainOnly s u := by
  unfold ChainOnly at *
  rw [h', h]

theorem stageDone_chainOnly (g : Gran) (c : Chan) (t : Tag) (x : List XReal) (s : State) :
    ChainOnly s (stageDone g c t x s) := by
  rw [stageDone_eq]
  rfl

theorem hybrid_chainOnly (g : Gran) (c : Chan) (s : State) : ChainOnly s (hybrid g c s) := by
  rw [hybrid, stageDone_eq]
  rfl

theorem synth_chainOnly (g : Gran) (c : Chan) (s : State) : ChainOnly s (synth g c s) := by
  rw [synth, stageDone_eq]
  rfl

theorem stagesBefore_chainOnly (g : Gran) (s : State) (c : Chan) : ChainOnly s (stagesBefore g s c) :=
  (stageDone_chainOnly g c .req _ s).trans (stageDone_chainOnly g c .reord _ _)

theorem stagesAfter_chainOnly (g : Gran) (s : State) (c : Chan) : ChainOnly s (stagesAfter g s c) :=
  (((stageDone_chainOnly g c .aa _ s).trans (hybrid_chainOnly g c _)).trans (stageDone_chainOnly g c .fi _ _)).trans
    (synth_chainOnly g c _)

/-- A stage run for channels in order. -/
theorem foldl_chainOnly {f : State → Chan → State} (hf : ∀ s c, ChainOnly s (f s c)) (l : List Chan) (s : State) :
    ChainOnly s (l.foldl f s) := by
  induction l generalizing s with
  | nil => rfl
  | cons c l ih => exact (hf s c).trans (ih _)

theorem reconstructGran_chainOnly (g : Gran) (s : State) : ChainOnly s (reconstructGran g s) :=
  ((foldl_chainOnly (stagesBefore_chainOnly g) _ s).trans
    (foldl_chainOnly (fun t c => stageDone_chainOnly g c .stereo _ t) _ _)).trans
    (foldl_chainOnly (stagesAfter_chainOnly g) _ _)

theorem reconstruct_chainOnly (s : State) : ChainOnly s (reconstruct s) :=
  (reconstructGran_chainOnly .g0 s).trans (reconstructGran_chainOnly .g1 _)

/-! ## PCM -/

@[simp] theorem stageDone_outPcm (g : Gran) (c : Chan) (t : Tag) (x : List XReal) (s : State) :
    (stageDone g c t x s).outPcm = s.outPcm := by rw [stageDone_eq]

/-- Stages that emit no PCM, run for channels in order. -/
theorem foldl_outPcm {f : State → Chan → State} (hf : ∀ s c, (f s c).outPcm = s.outPcm) (l : List Chan) (s : State) :
    (l.foldl f s).outPcm = s.outPcm := by
  induction l generalizing s with
  | nil => rfl
  | cons c l ih => exact (ih _).trans (hf s c)

theorem stagesBefore_outPcm (g : Gran) (s : State) (c : Chan) : (stagesBefore g s c).outPcm = s.outPcm := by
  simp [stagesBefore, reorder, requant]

theorem stereo_outPcm (g : Gran) (s : State) : (stereo g s).outPcm = s.outPcm :=
  foldl_outPcm (fun _ _ => stageDone_outPcm _ _ _ _ _) _ s

/-- SYNTH emits 576 samples of its channel (R589). -/
theorem synth_outPcm (g : Gran) (c : Chan) (s : State) : ∃ l : List XReal, l.length = 576 ∧
    (synth g c s).outPcm = s.outPcm.set c (s.outPcm.get c ++ l) := by
  refine ⟨(synthFrom s.bandMask (s.xr.get g c) (List.range 18) (s.vh.get c)).2.map (clipped s.cfg.pcmClip), ?_,
    stageDone_outPcm g c .syn _ _⟩
  rw [List.length_map, synthFrom_length, List.length_range]

/-- Of the stages after STEREO only SYNTH emits PCM (R590). -/
theorem stagesAfter_outPcm (g : Gran) (s : State) (c : Chan) : ∃ l : List XReal, l.length = 576 ∧
    (stagesAfter g s c).outPcm = s.outPcm.set c (s.outPcm.get c ++ l) := by
  have hbefore : (freqInv g c (hybrid g c (antialias g c s))).outPcm = s.outPcm := by
    simp [freqInv, hybrid, antialias]
  rw [← hbefore]
  exact synth_outPcm g c _

/-- The stages after STEREO, run for the channels of a frame in order. -/
theorem foldl_stagesAfter_outPcm (g : Gran) (s : State) {nch : Nat} {c : Chan} (hc : c ∈ chans nch) :
    ∃ l : List XReal, l.length = 576 ∧
      ((chans nch).foldl (stagesAfter g) s).outPcm.get c = s.outPcm.get c ++ l := by
  obtain ⟨l, hl, h0⟩ := stagesAfter_outPcm g s .c0
  obtain ⟨k, hk, h1⟩ := stagesAfter_outPcm g (stagesAfter g s .c0) .c1
  by_cases hn : nch = 1
  · obtain rfl : c = .c0 := by simpa [chans, hn] using hc
    exact ⟨l, hl, by simp [chans, hn, h0]⟩
  · cases c with
    | c0 => exact ⟨l, hl, by simp [chans, hn, h1, h0, PerChan.get_set_ne]⟩
    | c1 => exact ⟨k, hk, by simp [chans, hn, h1, h0, PerChan.get_set_ne]⟩

/-- A granule gives 576 samples to each of its channels (R590). -/
theorem reconstructGran_outPcm (g : Gran) {s : State} {c : Chan} (hc : c ∈ chans s.frm.nch) :
    ∃ l : List XReal, l.length = 576 ∧ (reconstructGran g s).outPcm.get c = s.outPcm.get c ++ l := by
  have hbefore : (stereo g ((chans s.frm.nch).foldl (stagesBefore g) s)).outPcm = s.outPcm :=
    (stereo_outPcm g _).trans (foldl_outPcm (stagesBefore_outPcm g) _ s)
  rw [← hbefore]
  exact foldl_stagesAfter_outPcm g _ hc

/-- A frame gives 1152 samples to each of its channels (R206, R590). -/
theorem reconstruct_outPcm {s : State} {c : Chan} (hc : c ∈ chans s.frm.nch) :
    ∃ l : List XReal, l.length = 1152 ∧ (reconstruct s).outPcm.get c = s.outPcm.get c ++ l := by
  have hfrm : (reconstructGran .g0 s).frm = s.frm := by rw [reconstructGran_chainOnly .g0 s]
  obtain ⟨l, hl, h0⟩ := reconstructGran_outPcm .g0 hc
  obtain ⟨k, hk, h1⟩ := reconstructGran_outPcm .g1 (hfrm ▸ hc)
  refine ⟨l ++ k, by rw [List.length_append, hl, hk], ?_⟩
  rw [reconstruct, h1, h0, List.append_assoc]

/-! ## Main data -/

/-- Only what decoding main data writes differs: BR_MD's position, MD and MDST (R430). -/
def DecodedOnly (s t : State) : Prop := t = { s with mdPos := t.mdPos, md := t.md, mdst := t.mdst }

theorem DecodedOnly.trans {s t u : State} (h : DecodedOnly s t) (h' : DecodedOnly t u) : DecodedOnly s u := by
  unfold DecodedOnly at *
  rw [h', h]

theorem mainPart_decodedOnly (q : Gran × Chan) (s : State) :
    (mainPart q).wp (fun _ t => DecodedOnly s t) (fun _ t => DecodedOnly s t) s := by
  refine Act.wp_bind.2 (Act.wp_mono (scaleFactors_wp q.1 q.2 s) ?_ fun _ _ h => h.1.frame)
  rintro - t ⟨hst, -⟩
  have hsf : DecodedOnly s (setMdst q.1 q.2 .sf t) := DecodedOnly.trans hst.frame rfl
  refine Act.wp_bind.2 (Act.wp_bind.2 (Act.wp_mono (huffGranule_wp q.1 q.2 _) ?_ fun _ _ h => hsf.trans h.1.frame))
  exact fun _ u hu => (hsf.trans hu.1.frame).trans rfl

@[simp] theorem emitDiag_mdPos (ds : List OutDiag) (s : State) : (emitDiag ds s).mdPos = s.mdPos := by
  rcases emitDiag_cases ds s with h | h <;> rw [h]

@[simp] theorem emitDiag_md (ds : List OutDiag) (s : State) : (emitDiag ds s).md = s.md := by
  rcases emitDiag_cases ds s with h | h <;> rw [h]

@[simp] theorem emitDiag_mdst (ds : List OutDiag) (s : State) : (emitDiag ds s).mdst = s.mdst := by
  rcases emitDiag_cases ds s with h | h <;> rw [h]

theorem emitDiag_eq (ds : List OutDiag) (s : State) :
    emitDiag ds s = { s with outDiag := (emitDiag ds s).outDiag } := by
  rcases emitDiag_cases ds s with h | h <;> rw [h]

/-- All MainData writes (R430): on a failure, what its parts decoded. -/
theorem mainData_frame (s : State) :
    mainData.wp
      (fun _ t => ∃ o, t = { s with
        mdPos := t.mdPos, md := t.md, mdst := t.mdst, outDiag := t.outDiag
        mdValid := true, outMaindata := s.outMaindata ++ [o] })
      (fun _ t => DecodedOnly s t) s := by
  refine Act.wp_bind.2 (Act.wp_mono (Act.wp_forEach _ (fun _ => DecodedOnly s) ?_ rfl) ?_ fun _ _ h => h)
  · intro _ q _ _ t hst
    exact Act.wp_mono (mainPart_decodedOnly q t) (fun _ _ => hst.trans) fun _ _ => hst.trans
  · intro ds t hst
    refine ⟨outMainOf { t with mdValid := true }, (emitDiag_eq _ _).trans ?_⟩
    rw [hst]
    simp

end Sys2Proof.Machine

/-! # The driver family, part 2: how a frame step ends -/

namespace Sys2Proof.Machine

/-! ## A frame step -/

/-- From the committed frame `u` to a frame kept undecoded (R205): its payload is in the history, and only what
resolving and decoding main data write differs. -/
def KeptUndecoded (u t : State) : Prop :=
  t = { u with
    hist := (histPush u).hist, mdbuf := t.mdbuf, mdPos := t.mdPos, mdRef := t.mdRef, outByteref := t.outByteref
    md := t.md, mdst := t.mdst }

/-- From the committed frame `u` to a decoded one (R205, R206). -/
structure FullyDecoded (u t : State) : Prop where
  frame : t = { u with
    hist := (histPush u).hist, mdbuf := t.mdbuf, mdPos := t.mdPos, mdRef := t.mdRef, outByteref := t.outByteref
    md := t.md, mdst := t.mdst, mdValid := true, outMaindata := t.outMaindata, outDiag := t.outDiag
    xr := t.xr, tag := t.tag, ovl := t.ovl, vh := t.vh, outPcm := t.outPcm, outInter := t.outInter }
  maindata : ∃ o, t.outMaindata = u.outMaindata ++ [o]
  pcm : ∀ c ∈ chans u.frm.nch, ∃ l : List XReal, l.length = 1152 ∧ t.outPcm.get c = u.outPcm.get c ++ l

/-- The two ways a frame step ends, from the committed frame `u` (R205). -/
inductive FrameEnd (opc : BitVec 8) (u : State) : State → Prop
  | undecoded (e : Err) (c : ErrClass) (t : State) (h : KeptUndecoded u t) :
      FrameEnd opc u (setCkpt (some e) (record e c opc t))
  | decoded (t : State) (h : FullyDecoded u t) : FrameEnd opc u (setCkpt none t)

/-- A resolved frame, its payload pushed: the stages were cleared by the commit (R303, R310). -/
theorem resolve_commitFrame {r : Frame} {s t : State} (h : resolve (commitFrame r s) = .ok () t) :
    KeptUndecoded (commitFrame r s) (histPush t) := by
  rw [(resolve_ok h).2]
  rfl

/-- Main data decoded and reconstructed make a frame kept so far a decoded one. -/
theorem KeptUndecoded.fullyDecoded {u v w : State} {o : OutMain} (hv : KeptUndecoded u v)
    (hw : w = { v with
      mdPos := w.mdPos, md := w.md, mdst := w.mdst, outDiag := w.outDiag
      mdValid := true, outMaindata := v.outMaindata ++ [o] }) :
    FullyDecoded u (reconstruct w) := by
  have hchain := reconstruct_chainOnly w
  have hfrm : w.frm = u.frm := by rw [hw, hv]
  have hpcm : w.outPcm = u.outPcm := by rw [hw, hv]
  refine ⟨?_, ⟨o, ?_⟩, fun c hc => ?_⟩
  · rw [hchain, hw, hv]
  · rw [hchain, hw, hv]
  · rw [← hpcm]
    exact reconstruct_outPcm (hfrm ▸ hc)

theorem frameStep_end (r : Frame) (opc : BitVec 8) (s : State) :
    FrameEnd opc (commitFrame r s) (frameStep r opc s) := by
  unfold frameStep
  rcases resolve_cases (commitFrame r s) with ⟨-, hres⟩ | ⟨-, hres⟩
  · rw [hres]
    exact .undecoded _ _ _ rfl
  · have hkept := resolve_commitFrame hres
    rw [hres]
    dsimp only
    rcases Act.wp_cases (mainData_frame (histPush _)) with ⟨_, w, hmain, o, hw⟩ | ⟨e, w, hmain, hw⟩ <;> rw [hmain]
    · exact .decoded _ (hkept.fullyDecoded hw)
    · refine .undecoded _ _ _ ?_
      unfold KeptUndecoded
      rw [hw, hkept]

/-- The fields no frame step writes after the commit (R205). -/
theorem FrameEnd.frame {opc : BitVec 8} {u t : State} (h : FrameEnd opc u t) : t = { u with
    err := t.err, irqStatus := t.irqStatus, ckptInfo := t.ckptInfo, hist := t.hist
    mdbuf := t.mdbuf, mdPos := t.mdPos, mdRef := t.mdRef, md := t.md, mdst := t.mdst, mdValid := t.mdValid
    xr := t.xr, tag := t.tag, ovl := t.ovl, vh := t.vh, outMaindata := t.outMaindata, outPcm := t.outPcm
    outByteref := t.outByteref, outInter := t.outInter, outDiag := t.outDiag } := by
  cases h with
  | undecoded e c t h => rw [h]; rfl
  | decoded t h => rw [h.frame]; rfl

/-! ## CKPT_INFO -/

/-- The CKPT_INFO word as a number (R51). -/
theorem ckptWord_toNat (nch : Nat) (fail : Option Err) : (ckptWord nch fail).toNat =
    256 * (fail.elim 0 Err.code).toNat + 2 * (decide (nch ≠ 1)).toNat + fail.isNone.toNat := by
  have fields : ∀ (code : BitVec 8) (two ok : BitVec 1),
      (0#16 ++ code ++ 0#6 ++ two ++ ok : BitVec (16 + 8 + 6 + 1 + 1)).toNat =
        256 * code.toNat + 2 * two.toNat + ok.toNat := by
    intro code two ok
    simp only [toNat_append_eq, BitVec.toNat_ofNat]
    omega
  rw [← bit_toNat, ← bit_toNat]
  cases fail <;> exact fields _ _ _

/-- The fields of CKPT_INFO (R51). -/
theorem ckptWord_fields (nch : Nat) (fail : Option Err) :
    (ckptWord nch fail).getLsbD 0 = fail.isNone ∧ (ckptWord nch fail).getLsbD 1 = decide (nch ≠ 1) ∧
      (ckptWord nch fail).extractLsb' 8 8 = fail.elim 0 Err.code := by
  have hw := ckptWord_toNat nch fail
  have hcode := (fail.elim 0 Err.code).isLt
  have htwo := Bool.toNat_lt (decide (nch ≠ 1))
  have hok := Bool.toNat_lt fail.isNone
  refine ⟨getLsbD_of_toNat (by omega), getLsbD_of_toNat (by omega), BitVec.eq_of_toNat_eq ?_⟩
  rw [BitVec.extractLsb'_toNat, Nat.shiftRight_eq_div_pow]
  omega

theorem setCkpt_ckptInfo (fail : Option Err) (s : State) : (setCkpt fail s).ckptInfo = ckptWord s.frm.nch fail := rfl

/-- The second channel's bit of CKPT_INFO after a frame step (R51). -/
theorem FrameEnd.ckptInfo {opc : BitVec 8} {u t : State} (h : FrameEnd opc u t) :
    t.ckptInfo.getLsbD 1 = decide (u.frm.nch ≠ 1) := by
  cases h with
  | undecoded e c t h => rw [setCkpt_ckptInfo, (ckptWord_fields _ _).2.1, record_frm, h]
  | decoded t h => rw [setCkpt_ckptInfo, (ckptWord_fields _ _).2.1, h.frame]

end Sys2Proof.Machine

/-! # The driver family, part 3: frame attempts and runs -/

namespace Sys2Proof.Machine

open Sys2Proof.Safety

/-! ## Where a frame ends -/

/-- A header the parser accepts is 32 bits long (R161). -/
theorem parseHeader_takes (src : Src) (p : Nat) : Takes src p 32 (parseHeader src) fun _ => True := by
  refine ((readField_takes src 12 p).check _ _).bind fun sync _ => ?_
  refine ((readField_takes src 1 _).check _ _).bind fun id _ => ?_
  refine ((readField_takes src 2 _).check _ _).bind fun layer _ => ?_
  refine (readField_takes src 1 _).bind fun protection _ => ?_
  refine (((readField_takes src 4 _).check _ _).check _ _).bind fun bitrateIndex _ => ?_
  refine ((readField_takes src 2 _).check _ _).bind fun samplingIndex _ => ?_
  refine (readField_takes src 1 _).bind fun padding _ => ?_
  refine (readField_takes src 1 _).bind fun priv _ => ?_
  refine (readField_takes src 2 _).bind fun mode _ => ?_
  refine (readField_takes src 2 _).bind fun modeExt _ => ?_
  refine (readField_takes src 1 _).bind fun copyright _ => ?_
  refine (readField_takes src 1 _).bind fun original _ => ?_
  exact ((readField_takes src 2 _).check _ _).bind_pure fun _ _ => trivial

/-- The CRC word is 16 bits long where there is one (R296). -/
theorem parseCrc_end {src : Src} {h : Header} {p q : Nat} {crc : Option (BitVec 16)}
    (hcrc : parseCrc src h p = .ok crc q) : q = p + 8 * (if crc.isNone then 0 else 2) := by
  unfold parseCrc at hcrc
  split at hcrc
  · obtain ⟨c, r, hread, hpure⟩ := Act.bind_eq_ok.1 hcrc
    cases hpure
    exact (readField_takes src 16 p c _ hread).1
  · cases hcrc
    rfl

/-- A parsed frame begins where the parse began, and ends after its head and its payload (R302). -/
theorem parseFrame_end {cfg : Config.Params} {src : Src} {p q : Nat} {f : Frame}
    (h : parseFrame cfg src p = .ok f q) : f.off = p / 8 ∧ q = p + 8 * (f.hsLen + f.payload.length) ∧ 4 ≤ f.hsLen := by
  obtain ⟨hdr, p1, hhdr, h⟩ := Act.bind_eq_ok.1 h
  obtain ⟨crc, p2, hcrc, h⟩ := Act.bind_eq_ok.1 h
  obtain ⟨si, p3, hsi, h⟩ := Act.bind_eq_ok.1 h
  obtain ⟨payload, p4, hbytes, h⟩ := Act.bind_eq_ok.1 h
  cases h
  have hnch : nchOf hdr = 1 ∨ nchOf hdr = 2 := by
    unfold nchOf
    split <;> simp
  have h1 : p1 = p + 32 := (parseHeader_takes src p hdr p1 hhdr).1
  have h2 := parseCrc_end hcrc
  have h3 : p3 = p2 + sideBits (nchOf hdr) := (parseSideInfo_takes src hnch p2 si p3 hsi).1
  have hside : sideBits (nchOf hdr) = 8 * (if nchOf hdr = 1 then 17 else 32) := by
    rcases hnch with hn | hn <;> rw [hn] <;> rfl
  have h4 : q = p3 + 8 * payload.length := by
    rcases byteRead_cases src (frameSize cfg hdr - headLen crc (nchOf hdr)) p3 with
      ⟨-, hr⟩ | ⟨-, -, -, hr⟩ | ⟨-, -, hr⟩ <;> rw [hr] at hbytes <;> cases hbytes
    rw [bytesAt_length]
  refine ⟨rfl, ?_, ?_⟩ <;> simp only [headLen] <;> omega

/-- With this hardware's tables that is its size (R294, R302). -/
theorem parseFrame_size {cfg : Config.Params} (hcfg : TablesOk cfg) {src : Src} {p q : Nat} {f : Frame}
    (h : parseFrame cfg src p = .ok f q) : q = p + 8 * f.size := by
  obtain ⟨-, -, -, -, -, hsum, -⟩ := ((Act.wp_of_ok h).1 (parseFrame_reads cfg p)).1 hcfg
  rw [← hsum]
  exact (parseFrame_end h).2.1

/-! ## A frame attempt -/

/-- The first byte boundary at or after BR_IN's position, where a scan begins (R258). -/
def scanStart (s : State) : Nat := (s.inPos + 7) / 8

/-- Byte `j` is the sync candidate of the next attempt (R204). -/
structure Candidate (s : State) (j : Nat) : Prop where
  start : scanStart s ≤ j
  inside : j < s.inLen.toNat
  sync : streamByte s .inp j = 0xFF
  first : ∀ i, scanStart s ≤ i → i < j → streamByte s .inp i ≠ 0xFF

/-- No byte that is left is a sync candidate (R208). -/
def NoCandidate (s : State) : Prop := ∀ j, scanStart s ≤ j → j < s.inLen.toNat → streamByte s .inp j ≠ 0xFF

theorem exists_candidate (s : State) : NoCandidate s ∨ ∃ j, Candidate s j := by
  by_cases h : ∃ j, scanStart s ≤ j ∧ j < s.inLen.toNat ∧ streamByte s .inp j = 0xFF
  · obtain ⟨hstart, hinside, hsync⟩ := Nat.find_spec h
    refine .inr ⟨Nat.find h, hstart, hinside, hsync, fun i hi hij hi' => Nat.find_min h hij ⟨hi, by omega, hi'⟩⟩
  · exact .inl fun j hj hlen hsync => h ⟨j, hj, hlen, hsync⟩

theorem scan_none {s : State} (h : NoCandidate s) : onReader .inp (fun src => findByte src 0xFF) s = .ok none s := by
  have hfind : findByte (src s .inp) 0xFF s.inPos = .ok none s.inPos := by
    rcases findByte_cases (src s .inp) 0xFF s.inPos with ⟨j, hj, -⟩ | ⟨-, hfind⟩
    · obtain ⟨hstart, hinside, hsync, -⟩ := findFrom_eq_some.1 hj
      have hlen : (src s .inp).len = 8 * s.inLen.toNat := rfl
      exact absurd hsync (h j hstart (by omega))
    · exact hfind
  exact onReader_ok hfind

theorem scan_candidate {s : State} {j : Nat} (h : Candidate s j) :
    onReader .inp (fun src => findByte src 0xFF) s = .ok (some j) (setPos s .inp (8 * j)) := by
  have hlen : (src s .inp).len = 8 * s.inLen.toNat := rfl
  have hfrom : findFrom (src s .inp) 0xFF ((src s .inp).len / 8 - scanStart s) (scanStart s) = some j :=
    findFrom_eq_some.2 ⟨h.start, by have := h.start; have := h.inside; omega, h.sync, h.first⟩
  refine onReader_ok (f := fun src => findByte src 0xFF) ?_
  rcases findByte_cases (src s .inp) 0xFF s.inPos with ⟨k, hk, hfind⟩ | ⟨hnone, -⟩
  · obtain rfl := Option.some.inj (hfrom.symm.trans hk)
    exact hfind
  · exact absurd (hfrom.symm.trans hnone) nofun

/-- What a run needs of a frame attempt (R204, R219): where it goes on, the mode and the input stay, and the next scan
starts past a byte that was left. -/
inductive AttemptEnd (s : State) : Attempt × State → Prop
  | finished : AttemptEnd s (.finished, s)
  | onward (a : Attempt) (t : State) (ha : a ≠ .finished) (hmode : t.mode = s.mode) (hlen : t.inLen = s.inLen)
      (hleft : scanStart s < s.inLen.toNat) (hscan : scanStart s < scanStart t) : AttemptEnd s (a, t)

section
variable (opc : BitVec 8) {s : State} {j : Nat}

theorem frameAttempt_finished (h : NoCandidate s) : frameAttempt opc s = (.finished, s) := by
  rw [frameAttempt, scan_none h]

theorem frameAttempt_resync (hj : Candidate s j) {e : Err} {p : Nat}
    (h : parseFrame s.cfg (src s .inp) (8 * j) = .err e p) :
    frameAttempt opc s = (.resync, setPos (record e .stream opc s) .inp (8 * (j + 1))) := by
  have hparse : onReader .inp (parseFrame s.cfg) (setPos s .inp (8 * j)) = .err e (setPos s .inp p) := onReader_err h
  rw [frameAttempt, scan_candidate hj]
  dsimp only
  rw [setPos_inp_cfg, hparse]
  rfl

theorem frameAttempt_frame (hj : Candidate s j) {f : Frame} {p : Nat}
    (h : parseFrame s.cfg (src s .inp) (8 * j) = .ok f p) :
    frameAttempt opc s = (.frame, frameStep f opc (setPos s .inp p)) := by
  have hparse : onReader .inp (parseFrame s.cfg) (setPos s .inp (8 * j)) = .ok f (setPos s .inp p) := onReader_ok h
  rw [frameAttempt, scan_candidate hj]
  dsimp only
  rw [setPos_inp_cfg, hparse]

theorem frameAttempt_end (s : State) : AttemptEnd s (frameAttempt opc s) := by
  rcases exists_candidate s with h | ⟨j, hj⟩
  · rw [frameAttempt_finished opc h]
    exact .finished
  have hstart := hj.start
  have hleft : scanStart s < s.inLen.toNat := hstart.trans_lt hj.inside
  cases hparse : parseFrame s.cfg (src s .inp) (8 * j) with
  | err e p =>
    rw [frameAttempt_resync opc hj hparse]
    refine .onward _ _ nofun rfl rfl hleft ?_
    simp only [scanStart, setPos_inp_inPos] at *
    omega
  | ok f p =>
    rw [frameAttempt_frame opc hj hparse]
    have hframe := (frameStep_end f opc (setPos s .inp p)).frame
    obtain ⟨-, hend, hhead⟩ := parseFrame_end hparse
    refine .onward _ _ nofun (by rw [hframe]; rfl) (by rw [hframe]; rfl) hleft ?_
    have hpos : (frameStep f opc (setPos s .inp p)).inPos = p := by rw [hframe]; rfl
    simp only [scanStart, hpos] at *
    omega

end

end Sys2Proof.Machine

/-! # The driver family, part 4: run control, STEP and the sequencer -/

namespace Sys2Proof.Machine

open Sys2Proof.Safety

/-! ## Run control -/

theorem exec_nop {s : State} (h : Ready s) : exec .nop s = .next s :=
  command_ok (main := false) (modeRefuses_of_ready h 0x00) rfl

/-- RUN where unit commands are accepted (R202). -/
theorem exec_run_ready {s : State} (h : Ready s) : exec .run s = .next (startRun s) :=
  command_ok (main := false) (modeRefuses_of_ready h 0x02) (Act.modify_apply startRun s)

/-- STEP where unit commands are accepted (R214). -/
theorem exec_step_ready {s : State} (h : Ready s) : exec .step s = .next (stepFrame s) :=
  command_ok (main := false) (modeRefuses_of_ready h 0x03) (Act.modify_apply stepFrame s)

/-- REPLY where no answer is awaited (R212). -/
theorem exec_reply_ready {s : State} (h : Ready s) :
    exec .reply s = .next (record .illegalCommand .command 0x04 s) := by
  have hmode : s.mode ≠ .checkpoint := by rcases h with h | h <;> rw [h] <;> decide
  exact command_err (main := false) (modeRefuses_of_ready h 0x04)
    (Act.bind_of_err (Act.need_of_false (decide_eq_false hmode)))

end Sys2Proof.Machine

namespace Sys2Proof.Proofs

open Sys2Proof.Machine Sys2Proof.Safety

/-- Settles O48: each command's body is the change its rule lists, and power-on is a move. -/
theorem nopResetRun : Obligations.NopResetRun :=
  ⟨fun _ => exec_nop, exec_reset, fun _ _ hmoves => step_hostMove hmoves rfl, fun _ => exec_run_ready⟩

/-- Settles O49: at a checkpoint REPLY is the answer ARG gives, elsewhere its check fails. -/
theorem reply : Obligations.Reply := by
  refine fun s => ⟨fun hmode hcont => ?_, fun hmode hcont => ?_, fun h => ?_⟩
  · rw [exec_reply_checkpoint hmode, answerCheckpoint, argBit0, hcont]
    rfl
  · rw [exec_reply_checkpoint hmode, answerCheckpoint, argBit0, hcont]
    rfl
  · rw [exec_reply_ready h, record, errWord_command]
    rfl

end Sys2Proof.Proofs

namespace Sys2Proof.Machine

open Sys2Proof.Safety

/-! ## STEP -/

/-- Fuel above the bytes left to scan never ends STEP's loop (R219). -/
theorem stepLoop_fuel {n m : Nat} {s : State} (hn : s.inLen.toNat - scanStart s < n)
    (hm : s.inLen.toNat - scanStart s < m) : stepLoop n s = stepLoop m s := by
  induction n generalizing m s with
  | zero => omega
  | succ n ih =>
    obtain ⟨m, rfl⟩ := Nat.exists_eq_succ_of_ne_zero (by omega : m ≠ 0)
    unfold stepLoop
    have hend := frameAttempt_end 0x03 s
    generalize frameAttempt 0x03 s = x at hend ⊢
    cases hend with
    | finished => rfl
    | onward a t ha hmode hlen hleft hscan =>
      cases a with
      | resync => exact ih (by rw [hlen]; omega) (by rw [hlen]; omega)
      | frame => rfl
      | finished => rfl

/-- STEP in IDLE runs its loop (R214). -/
theorem exec_step_idle {s : State} (h : s.mode = .idle) : exec .step s = .next (stepLoop (s.inLen.toNat + 1) s) := by
  rw [exec_step_ready (.inl h), stepFrame, if_neg (by rw [h]; decide)]

section
variable {s t : State} (hs : s.mode = .idle)
include hs

/-- STEP goes on past a candidate that does not parse (R214). -/
theorem exec_step_resync (h : frameAttempt 0x03 s = (.resync, t)) : t.mode = .idle ∧ exec .step s = exec .step t := by
  have hend := frameAttempt_end 0x03 s
  rw [h] at hend
  cases hend with
  | onward _ _ _ hmode hlen hleft hscan =>
    have ht : t.mode = .idle := hmode.trans hs
    refine ⟨ht, ?_⟩
    rw [exec_step_idle hs, exec_step_idle ht, stepLoop, h]
    dsimp only
    rw [stepLoop_fuel (s := t) (n := s.inLen.toNat) (m := t.inLen.toNat + 1) (by rw [hlen]; omega) (by omega)]

theorem exec_step_frame (h : frameAttempt 0x03 s = (.frame, t)) : exec .step s = .next { t with
    result0 := t.frameCnt - 1, result1 := t.ckptInfo, irqStatus := t.irqStatus ||| irqCkpt } := by
  rw [exec_step_idle hs, stepLoop, h]
  rfl

theorem exec_step_finished (h : frameAttempt 0x03 s = (.finished, t)) :
    t = s ∧ exec .step s = .next (endRun (stepAtEnd s)) := by
  have hend := frameAttempt_end 0x03 s
  rw [h] at hend
  cases hend with
  | finished => exact ⟨rfl, by rw [exec_step_idle hs, stepLoop, h]⟩
  | onward _ _ ha => exact absurd rfl ha

end

/-! ## The sequencer -/

/-- The ERR word of a stream error under RUN's opcode, as a sum of its fields (R39, R204). -/
theorem errWord_run_stream (e : Err) : errWord 0x02 .stream e = 0x00020100 + e.code.zeroExtend 32 := by
  have hcode := e.code.isLt
  apply BitVec.eq_of_toNat_eq
  simp only [errWord_toNat, BitVec.toNat_add, BitVec.truncate_eq_setWidth, BitVec.toNat_setWidth,
    BitVec.ofNat_eq_ofNat, BitVec.toNat_ofNat, ErrClass.code]
  omega

/-- With no move pending, a step in a run is the sequencer's (R203, log 7). -/
theorem step_running {s : State} (hmode : s.mode = .running) (hmoves : s.moves = []) :
    step s = .next (sequencerStep s) := by
  rw [step_sequencer hmoves, sequencerTurn, hmode]

theorem sequencerStep_of_frame {s t : State} (h : frameAttempt 0x02 s = (.frame, t)) :
    sequencerStep s = enterCheckpoint t := by rw [sequencerStep, h]

theorem sequencerStep_of_resync {s t : State} (h : frameAttempt 0x02 s = (.resync, t)) : sequencerStep s = t := by
  rw [sequencerStep, h]

theorem sequencerStep_of_finished {s t : State} (h : frameAttempt 0x02 s = (.finished, t)) :
    sequencerStep s = endRun t := by rw [sequencerStep, h]

/-- A step of a run at a candidate that parses (R205, R210). -/
theorem step_frame {s : State} (hmode : s.mode = .running) (hmoves : s.moves = []) {j p : Nat} (hj : Candidate s j)
    {f : Frame} (h : parseFrame s.cfg (src s .inp) (8 * j) = .ok f p) :
    step s = .next (enterCheckpoint (frameStep f 0x02 (setPos s .inp p))) := by
  rw [step_running hmode hmoves, sequencerStep_of_frame (frameAttempt_frame 0x02 hj h)]

/-! ## Termination -/

theorem continueRuns_add (k n : Nat) (s : State) : continueRuns (k + n) s = continueRuns n (continueRuns k s) := by
  induction k generalizing s with
  | zero => rw [Nat.zero_add]; rfl
  | succ k ih => rw [Nat.succ_add]; exact ih _

theorem continueRun_running {s : State} (h : s.mode = .running) : continueRun s = sequencerStep s := by
  rw [continueRun, h]

theorem continueRun_checkpoint {s : State} (h : s.mode = .checkpoint) :
    continueRun s = { s with mode := .running } := by
  rw [continueRun, h]

/-- One attempt, and the answer to its checkpoint, ends the run or moves the scan on (R203, R212). -/
theorem continueRuns_attempt {s : State} (hs : s.mode = .running) : (continueRun s).mode = .done ∨
    ∃ k ≤ 2, (continueRuns k s).mode = .running ∧ (continueRuns k s).inLen = s.inLen ∧
      scanStart s < s.inLen.toNat ∧ scanStart s < scanStart (continueRuns k s) := by
  have hend := frameAttempt_end 0x02 s
  rcases h : frameAttempt 0x02 s with ⟨a, t⟩
  rw [h] at hend
  cases hend with
  | finished =>
    rw [continueRun_running hs, sequencerStep_of_finished h]
    exact .inl rfl
  | onward _ _ ha hmode hlen hleft hscan =>
    refine .inr ?_
    cases a with
    | resync =>
      have hrun : continueRuns 1 s = t := (continueRun_running hs).trans (sequencerStep_of_resync h)
      refine ⟨1, by decide, ?_⟩
      rw [hrun]
      exact ⟨hmode.trans hs, hlen, hleft, hscan⟩
    | frame =>
      have hrun : continueRuns 2 s = { enterCheckpoint t with mode := .running } := by
        rw [continueRuns, continueRun_running hs, sequencerStep_of_frame h]
        exact continueRun_checkpoint (s := enterCheckpoint t) rfl
      refine ⟨2, le_rfl, ?_⟩
      rw [hrun]
      exact ⟨rfl, hlen, hleft, hscan⟩
    | finished => exact absurd rfl ha

/-- A run in RUNNING with at most `n` bytes left to scan is over within 2 n + 1 turns (R219). -/
theorem running_terminates (n : Nat) {s : State} (hmode : s.mode = .running)
    (hn : s.inLen.toNat - scanStart s ≤ n) : ∃ k ≤ 2 * n + 1, (continueRuns k s).mode = .done := by
  induction n generalizing s with
  | zero =>
    rcases continueRuns_attempt hmode with hdone | ⟨-, -, -, -, hleft, -⟩
    · exact ⟨1, le_rfl, hdone⟩
    · omega
  | succ n ih =>
    rcases continueRuns_attempt hmode with hdone | ⟨k, hk, hrun, hlen, hleft, hscan⟩
    · exact ⟨1, by omega, hdone⟩
    · obtain ⟨m, hm, hdone⟩ := ih hrun (by rw [hlen]; omega)
      exact ⟨k + m, by omega, by rwa [continueRuns_add]⟩

end Sys2Proof.Machine

namespace Sys2Proof.Proofs

open Sys2Proof.Machine Sys2Proof.Safety

/-- Settles O50: with the fuel STEP has, its loop is the repeated attempt of R214. -/
theorem stepCommand : Obligations.StepCommand := by
  refine fun s => ⟨fun hdone => ?_, fun hidle => ⟨fun t h => exec_step_resync hidle h,
    fun t h => exec_step_frame hidle h, fun t h => exec_step_finished hidle h, exec_next .step s⟩⟩
  rw [exec_step_ready (.inr hdone), stepFrame, if_pos hdone]
  rfl

/-- Settles O51: the step is one attempt; a frame ends where its parse does, and its decoding leaves the scan, the
host's registers and the results alone. -/
theorem sequencerStep : Obligations.SequencerStep := by
  intro s hmode hmoves htables
  refine ⟨fun hnone => ?_, fun j hstart hinside hsync hfirst => ?_⟩
  · rw [step_running hmode hmoves, sequencerStep_of_finished (frameAttempt_finished 0x02 hnone)]
    rfl
  have hj : Candidate s j := ⟨hstart, hinside, hsync, hfirst⟩
  refine ⟨fun e p hparse => ?_, fun f p hparse => ⟨_, step_frame hmode hmoves hj hparse, ?_⟩⟩
  · rw [step_running hmode hmoves, sequencerStep_of_resync (frameAttempt_resync 0x02 hj hparse),
      ← errWord_run_stream]
    rfl
  · have hend := frameStep_end f 0x02 (setPos s .inp p)
    obtain ⟨hoff, -⟩ := parseFrame_end hparse
    have hpos : p = 8 * (j + f.size) := by rw [parseFrame_size htables hparse, Nat.mul_add]
    have hnch := hend.ckptInfo
    have hframe := hend.frame
    generalize frameStep f 0x02 (setPos s .inp p) = t at hframe hnch ⊢
    have hirq : (enterCheckpoint t).irqStatus.getLsbD 0 = true := by simp [enterCheckpoint, irqCkpt]
    rw [hframe] at hirq hnch ⊢
    exact ⟨rfl, hirq, rfl, rfl, rfl, hpos, by omega, hnch, ⟨_, rfl, rfl⟩, rfl, rfl, rfl, rfl, rfl, rfl, rfl, rfl, rfl,
      rfl, rfl⟩

/-- Settles O52: the frame step ends in one of two ways, told apart by the bit DECODED of CKPT_INFO. -/
theorem frameOutcome : Obligations.FrameOutcome := by
  intro s t f j p hmode hmoves hstart hinside hsync hfirst hparse hstep
  rw [step_frame hmode hmoves ⟨hstart, hinside, hsync, hfirst⟩ hparse] at hstep
  injection hstep with ht
  have hend := frameStep_end f 0x02 (setPos s .inp p)
  generalize frameStep f 0x02 (setPos s .inp p) = u at hend ht
  subst ht
  cases hend with
  | undecoded e c v hv =>
    obtain ⟨hdecoded, -, hcode⟩ := ckptWord_fields v.frm.nch (some e)
    obtain ⟨hopc, -, herr, -⟩ := errWord_fields 0x02 c e
    have hirq : (v.irqStatus ||| irqErr ||| irqCkpt).getLsbD 2 = true := by simp [irqErr]
    refine ⟨by rw [hv]; rfl, fun _ => ?_, fun hbit => absurd (hdecoded.symm.trans hbit) nofun⟩
    refine ⟨?_, ?_, ?_, ?_, ?_, ?_, hopc, hcode.trans herr.symm, hirq⟩ <;> rw [hv] <;> rfl
  | decoded v hv =>
    obtain ⟨hdecoded, -, hcode⟩ := ckptWord_fields v.frm.nch none
    refine ⟨by rw [hv.frame]; rfl, fun hbit => absurd (hdecoded.symm.trans hbit) nofun, fun _ => ?_⟩
    exact ⟨by rw [hv.frame]; rfl, hcode, by rw [hv.frame]; rfl, hv.maindata, hv.pcm⟩

/-- Settles O53: a turn at a checkpoint goes on with the run, and each attempt leaves fewer bytes to scan. -/
theorem runTerminates : Obligations.RunTerminates := by
  intro s hs
  rcases hs with hmode | hmode
  · obtain ⟨k, hk, hdone⟩ := running_terminates s.inLen.toNat hmode (Nat.sub_le _ _)
    exact ⟨k, by omega, hdone⟩
  · have hrun := continueRun_checkpoint hmode
    obtain ⟨k, hk, hdone⟩ := running_terminates s.inLen.toNat (s := { s with mode := .running }) rfl (Nat.sub_le _ _)
    exact ⟨k + 1, by omega, by rwa [continueRuns, hrun]⟩

end Sys2Proof.Proofs

/-! # The bit-reader family, part 1: bytes, seeking and searching -/

namespace Sys2Proof.Machine

open Sys2Proof.Safety

theorem bytesAt_getD (src : Src) (a : Nat) {n k : Nat} (h : k < n) : (bytesAt src a n).getD k 0 = src.byte (a + k) :=
  table_getD _ _ h

/-- A FindByte of a value that is left in the stream answers its first place from the next byte boundary on (R258). -/
theorem findByte_some {src : Src} {v : Byte} {p j : Nat} (hstart : (p + 7) / 8 ≤ j)
    (hinside : 8 * (j + 1) ≤ src.len) (hbyte : src.byte j = v)
    (hfirst : ∀ i, (p + 7) / 8 ≤ i → i < j → src.byte i ≠ v) :
    findByte src v p = .ok (some j) (8 * j) := by
  have hfind : findFrom src v (src.len / 8 - (p + 7) / 8) ((p + 7) / 8) = some j :=
    findFrom_eq_some.2 ⟨hstart, by omega, hbyte, hfirst⟩
  rw [findByte, hfind]

/-- A FindByte of a value that is not left in the stream (R258). -/
theorem findByte_none {src : Src} {v : Byte} {p : Nat}
    (h : ∀ j, (p + 7) / 8 ≤ j → 8 * (j + 1) ≤ src.len → src.byte j ≠ v) : findByte src v p = .ok none p := by
  have hfind : findFrom src v (src.len / 8 - (p + 7) / 8) ((p + 7) / 8) = none :=
    findFrom_eq_none.2 fun j hj hlen => h j hj (by omega)
  rw [findByte, hfind]

section
variable {r : Reader} {s : State} (hs : Ready s)
include hs

/-- BR_READ_BYTES of bytes that are there, or of none (R255). -/
theorem exec_brReadBytes_ok (ha : readerPos s r % 8 = 0)
    (h : s.arg.toNat = 0 ∨ readerPos s r + 8 * s.arg.toNat ≤ streamLen s r) :
    exec (.brReadBytes r) s = .next (setPos
      { s with result0 := firstFour (bytesAt (src s r) (readerPos s r / 8) s.arg.toNat)
               result1 := s.arg
               outBytes := s.outBytes ++ [bytesAt (src s r) (readerPos s r / 8) s.arg.toNat] } r
      (readerPos s r + 8 * s.arg.toNat)) := by
  have hread := onReader_ok (f := fun src => byteRead src (argNat s)) (byteRead_ok ha (src_len s r ▸ h))
  refine command_ok (modeRefuses_of_ready hs 0x11) ?_
  rw [Act.bind_of_ok hread, Act.modify_apply]
  cases r <;> rfl

/-- BR_READ_BYTES whose ByteRead raises an error (R254). -/
theorem exec_brReadBytes_err {e : Err} {p : Nat} (h : byteRead (src s r) s.arg.toNat (readerPos s r) = .err e p) :
    exec (.brReadBytes r) s = .next (record e (e.cls false) 0x11 (setPos s r p)) :=
  command_err (main := false) (modeRefuses_of_ready hs 0x11)
    (Act.bind_of_err (onReader_err (f := fun src => byteRead src (argNat s)) h))

/-- BR_SEEK (R256, R257). -/
theorem exec_brSeek : exec (.brSeek r) s = .next (setPos
    { s with result0 := wordOfNat (min s.arg.toNat (streamLen s r)) } r (min s.arg.toNat (streamLen s r))) := by
  have hseek := onReader_ok (r := r) (s := s) (f := fun src => seekTo src (argNat s)) rfl
  rw [src_len] at hseek
  show execBrSeek r s = _
  refine command_ok (modeRefuses_of_ready hs 0x12) ?_
  rw [Act.bind_of_ok hseek, Act.modify_apply]
  cases r <;> rfl

/-- BR_TELL (R260). -/
theorem exec_brTell : exec (.brTell r) s =
    .next { s with result0 := wordOfNat (readerPos s r), result1 := wordOfNat (streamLen s r) } :=
  command_ok (main := false) (modeRefuses_of_ready hs 0x14) (Act.modify_apply _ s)

/-- BR_EOF (R261). -/
theorem exec_brEof : exec (.brEof r) s = .next { s with result0 := if eof s r then 1 else 0 } :=
  command_ok (main := false) (modeRefuses_of_ready hs 0x15) (Act.modify_apply _ s)

/-- BR_FIND_BYTE of a byte that is found (R259). -/
theorem exec_brFindByte_some {j p : Nat}
    (h : findByte (src s r) (s.arg.extractLsb' 0 8) (readerPos s r) = .ok (some j) p) :
    exec (.brFindByte r) s = .next (setPos
      { s with found := true, result0 := wordOfNat j, result1 := wordOfNat p } r p) := by
  have hfind := onReader_ok (f := fun src => findByte src (argByte s)) h
  refine command_ok (modeRefuses_of_ready hs 0x13) ?_
  rw [Act.bind_of_ok hfind, Act.modify_apply]
  cases r <;> rfl

/-- BR_FIND_BYTE of a byte that is not there (R259). -/
theorem exec_brFindByte_none
    (h : findByte (src s r) (s.arg.extractLsb' 0 8) (readerPos s r) = .ok none (readerPos s r)) :
    exec (.brFindByte r) s = .next
      { s with found := false, result0 := 0xFFFFFFFF, result1 := wordOfNat (readerPos s r) } := by
  have hfind := onReader_ok (f := fun src => findByte src (argByte s)) h
  rw [setPos_readerPos] at hfind
  refine command_ok (modeRefuses_of_ready hs 0x13) ?_
  rw [Act.bind_of_ok hfind]
  rfl

end

end Sys2Proof.Machine

namespace Sys2Proof.Proofs

open Sys2Proof.Machine Sys2Proof.Safety

/-- Settles O14: the three ways a ByteRead can end. -/
theorem readBytes : Obligations.ReadBytes := by
  intro r s hs
  refine ⟨fun ha h => ⟨_, bytesAt_length _ _ _, fun k hk => ?_, exec_brReadBytes_ok hs ha h⟩, fun ha => ?_,
    fun ha h0 h => ?_⟩
  · rw [bytesAt_getD _ _ hk, src_byte]
  · rcases byteRead_cases (src s r) s.arg.toNat (readerPos s r) with ⟨-, hread⟩ | ⟨ha', -⟩ | ⟨ha', -⟩
    · rw [exec_brReadBytes_err hs hread, setPos_readerPos]
      rfl
    all_goals exact absurd ha' ha
  · rw [← src_len] at h ⊢
    rcases byteRead_cases (src s r) s.arg.toNat (readerPos s r) with ⟨ha', -⟩ | ⟨-, -, -, hread⟩ | ⟨-, h', -⟩
    · exact absurd ha ha'
    · rw [exec_brReadBytes_err hs hread]
      cases r <;> rfl
    · omega

/-- Settles O16: the search meets the first such byte, or the end. -/
theorem findByte : Obligations.FindByte := by
  intro r s hs
  simp only [← src_byte, ← src_len]
  exact ⟨fun j hstart hinside hbyte hfirst => exec_brFindByte_some hs (findByte_some hstart hinside hbyte hfirst),
    fun h => exec_brFindByte_none hs (findByte_none h)⟩

/-- Settles O15: none of the three commands raises an error. -/
theorem seekTellEof : Obligations.SeekTellEof := by
  refine fun r s hs => ⟨exec_brSeek hs, exec_brTell hs, ?_⟩
  rw [exec_brEof hs, eof]
  simp only [decide_eq_true_eq]

end Sys2Proof.Proofs

/-! # The bit-reader family, part 2: how a parse of fields ends -/

namespace Sys2Proof.Machine

open Sys2Proof.Safety

/-! ## Strings of checked fields

How the parse of a string of fields ends is said by the fields alone: a field that is not there whole, or one whose
check fails, ends it (R253, R280). -/

/-- A field: its width, and the error its check raises, if any. -/
abbrev CheckedField := Nat × Option Err

/-- The bits of a string of fields. -/
def totalWidth (l : List CheckedField) : Nat := (l.map Prod.fst).sum

/-- An ending counted from `n` bits before. -/
def afterBits (n : Nat) (x : Err × Nat) : Err × Nat := (x.1, n + x.2)

/-- The first check that fails, and the number of bits read by then. -/
def firstFault : List CheckedField → Option (Err × Nat)
  | [] => none
  | (w, some e) :: _ => some (e, w)
  | (w, none) :: l => (firstFault l).map (afterBits w)

/-- How the parse ends when `r` bits are there: an error and the number of bits read by then, or none. -/
def ending : List CheckedField → Nat → Option (Err × Nat)
  | [], _ => none
  | (w, some e) :: _, r => if r < w then some (.unexpectedEnd, 0) else some (e, w)
  | (w, none) :: l, r => if r < w then some (.unexpectedEnd, 0) else (ending l (r - w)).map (afterBits w)

@[simp] theorem totalWidth_nil : totalWidth [] = 0 := rfl

@[simp] theorem totalWidth_cons (w : Nat) (m : Option Err) (l : List CheckedField) :
    totalWidth ((w, m) :: l) = w + totalWidth l := rfl

@[simp] theorem totalWidth_append (l l' : List CheckedField) : totalWidth (l ++ l') = totalWidth l + totalWidth l' := by
  simp [totalWidth]

theorem map_afterBits (o : Option (Err × Nat)) (m n : Nat) :
    (o.map (afterBits n)).map (afterBits m) = o.map (afterBits (m + n)) := by
  cases o <;> simp [afterBits, Nat.add_assoc]

theorem map_afterBits_zero (o : Option (Err × Nat)) : o.map (afterBits 0) = o := by
  cases o <;> simp [afterBits]

theorem firstFault_append (l l' : List CheckedField) :
    firstFault (l ++ l') = (firstFault l).or ((firstFault l').map (afterBits (totalWidth l))) := by
  induction l with
  | nil => exact (map_afterBits_zero _).symm
  | cons x l ih =>
    obtain ⟨w, _ | e⟩ := x
    · rw [List.cons_append, firstFault, ih, firstFault, totalWidth_cons, Option.map_or, map_afterBits]
    · rfl

theorem ending_append (l l' : List CheckedField) (r : Nat) :
    ending (l ++ l') r = (ending l r).or ((ending l' (r - totalWidth l)).map (afterBits (totalWidth l))) := by
  induction l generalizing r with
  | nil => exact (map_afterBits_zero _).symm
  | cons x l ih =>
    obtain ⟨w, _ | e⟩ := x <;> rw [List.cons_append, ending, ending] <;> split_ifs
    · rfl
    · rw [ih, Option.map_or, map_afterBits, totalWidth_cons, Nat.sub_sub]
    all_goals rfl

/-- A parse that succeeds had all its bits. -/
theorem totalWidth_le_of_ending {l : List CheckedField} {r : Nat} (h : ending l r = none) : totalWidth l ≤ r := by
  induction l generalizing r with
  | nil => exact Nat.zero_le r
  | cons x l ih =>
    obtain ⟨w, _ | e⟩ := x <;> rw [ending] at h <;> split_ifs at h
    have := ih (Option.map_eq_none_iff.1 h)
    rw [totalWidth_cons]
    omega

/-- Reading on after a field of `w` bits. -/
theorem readOutcome_afterBits (fault : Option (Err × Nat)) (w : Nat) (ws : List Nat) (r : Nat) :
    readOutcome (fault.map (afterBits w)) (w :: ws) r =
      if r < w then some (.unexpectedEnd, 0) else (readOutcome fault ws (r - w)).map (afterBits w) := by
  by_cases hr : r < w
  · cases fault <;> grind [readOutcome, fieldStart, afterBits]
  · cases fault <;> grind [readOutcome, fieldStart, afterBits]

/-- The ending, said by the first fault and the widths. -/
theorem readOutcome_eq_ending (l : List CheckedField) (r : Nat) :
    readOutcome (firstFault l) (l.map Prod.fst) r = ending l r := by
  induction l generalizing r with
  | nil => simp [readOutcome, firstFault, ending]
  | cons x l ih =>
    obtain ⟨w, _ | e⟩ := x
    · rw [ending, ← ih]
      exact readOutcome_afterBits _ w _ r
    · grind [readOutcome, firstFault, ending, fieldStart]

section
variable {n : Nat} {f : Nat → List CheckedField} (hf : ∀ k, totalWidth (f k) = n)
include hf

/-- Strings of fields of `n` bits in a row. -/
theorem totalWidth_flatMap (m : Nat) : totalWidth ((List.range m).flatMap f) = m * n := by
  induction m with
  | zero => exact (Nat.zero_mul n).symm
  | succ m ih =>
    rw [List.range_succ, List.flatMap_append, List.flatMap_singleton, totalWidth_append, ih, hf, Nat.succ_mul]

/-- Their first fault is that of the first string that has one. -/
theorem firstFault_flatMap (m : Nat) : firstFault ((List.range m).flatMap f) =
    (List.range m).findSome? fun k => (firstFault (f k)).map (afterBits (n * k)) := by
  induction m with
  | zero => rfl
  | succ m ih =>
    rw [List.range_succ, List.flatMap_append, List.flatMap_singleton, List.findSome?_append, firstFault_append, ih,
      totalWidth_flatMap hf, Nat.mul_comm m n, List.findSome?_singleton]

end

/-! ## Parses -/

/-- At position `p` of `src`, `x` parses the fields `l`: it ends as they say, and its answers satisfy `V`. -/
def Parses {α : Type} (src : Src) (p : Nat) (x : Rd α) (l : List CheckedField) (V : α → Prop) : Prop :=
  match ending l (src.len - p) with
  | none => ∃ a, x p = .ok a (p + totalWidth l) ∧ V a
  | some (e, n) => x p = .err e (p + n)

namespace Parses

variable {α β : Type} {src : Src} {p : Nat} {x : Rd α} {l l' : List CheckedField} {V : α → Prop} {W : β → Prop}

theorem of_none (h : Parses src p x l V) (he : ending l (src.len - p) = none) :
    ∃ a, x p = .ok a (p + totalWidth l) ∧ V a := by
  rwa [Parses, he] at h

theorem of_some {e : Err} {n : Nat} (h : Parses src p x l V) (he : ending l (src.len - p) = some (e, n)) :
    x p = .err e (p + n) := by
  rwa [Parses, he] at h

/-- What is known of every answer may be added. -/
theorem and {U : α → Prop} (h : Parses src p x l V) (hU : ∀ a q, x p = .ok a q → U a) :
    Parses src p x l fun a => V a ∧ U a := by
  unfold Parses at *
  split at h
  · obtain ⟨a, ha, hV⟩ := h
    exact ⟨a, ha, hV, hU a _ ha⟩
  · exact h

theorem mono {U : α → Prop} (h : Parses src p x l V) (hU : ∀ a, V a → U a) : Parses src p x l U := by
  unfold Parses at *
  split at h
  · obtain ⟨a, ha, hV⟩ := h
    exact ⟨a, ha, hU a hV⟩
  · exact h

theorem pure {a : α} (h : V a) : Parses src p (Act.pure a) [] V := ⟨a, rfl, h⟩

/-- One parse after another parses the fields of both; the second begins right after the first's bits, which are
there. -/
theorem bind {f : α → Rd β} (hx : Parses src p x l V)
    (hf : ∀ a, V a → totalWidth l ≤ src.len - p → Parses src (p + totalWidth l) (f a) l' W) :
    Parses src p (x.bind f) (l ++ l') W := by
  rw [Parses, ending_append]
  cases he : ending l (src.len - p) with
  | some y => exact Act.bind_of_err (hx.of_some he)
  | none =>
    obtain ⟨a, ha, hV⟩ := hx.of_none he
    have hrest := hf a hV (totalWidth_le_of_ending he)
    rw [Option.none_or, Act.bind_of_ok ha, Nat.sub_sub]
    cases he' : ending l' (src.len - (p + totalWidth l)) with
    | none =>
      obtain ⟨b, hb, hW⟩ := hrest.of_none he'
      exact ⟨b, by rw [hb, totalWidth_append, Nat.add_assoc], hW⟩
    | some y => exact (hrest.of_some he').trans (by rw [Nat.add_assoc])

/-- A field, then the rest. -/
theorem bindField {f : α → Rd β} {w : Nat} {m : Option Err} (hx : Parses src p x [(w, m)] V)
    (hf : ∀ a, V a → w ≤ src.len - p → Parses src (p + w) (f a) l W) : Parses src p (x.bind f) ((w, m) :: l) W :=
  hx.bind hf

/-- A check after a field: its error comes after that of the check before it. -/
theorem check {w : Nat} {m : Option Err} (hx : Parses src p x [(w, m)] V) {c : α → Bool} {e : Err} {bad : Prop}
    [Decidable bad] (hc : ∀ a, V a → w ≤ src.len - p → (c a = false ↔ bad)) :
    Parses src p (x.check c e) [(w, m.or (if bad then some e else none))] V := by
  by_cases hw : src.len - p < w
  · have hshort : ∀ m, ending [(w, m)] (src.len - p) = some (.unexpectedEnd, 0) := fun m => by
      cases m <;> rw [ending, if_pos hw]
    rw [Parses, hshort]
    exact Act.bind_of_err (hx.of_some (hshort m))
  cases m with
  | some e' =>
    have hfail : ending [(w, some e')] (src.len - p) = some (e', w) := if_neg hw
    rw [Parses, Option.some_or, hfail]
    exact Act.bind_of_err (hx.of_some hfail)
  | none =>
    have hpass : ending [(w, none)] (src.len - p) = none := if_neg hw
    obtain ⟨a, ha, hV⟩ := hx.of_none hpass
    have hca := hc a hV (Nat.not_lt.1 hw)
    by_cases hbad : bad
    · have hfail : ending [(w, some e)] (src.len - p) = some (e, w) := if_neg hw
      rw [Option.none_or, if_pos hbad, Parses, hfail, Act.check, Act.bind_of_ok ha, hca.2 hbad]
      rfl
    · rw [Option.none_or, if_neg hbad, Parses, hpass]
      exact ⟨a, Act.check_eq_ok.2 ⟨ha, Bool.of_not_eq_false (mt hca.1 hbad)⟩, hV⟩

theorem congr (h : Parses src p x l V) (hl : l = l') : Parses src p x l' V := hl ▸ h

/-- A value made of an answer takes no more fields. -/
theorem bind_pure {f : α → β} (hx : Parses src p x l V) (hf : ∀ a, V a → W (f a)) :
    Parses src p (x.bind fun a => Act.pure (f a)) l W :=
  (hx.bind fun a hV _ => pure (hf a hV)).congr (List.append_nil l)

/-- Items in a row, each of `n` bits. -/
theorem replicate {n : Nat} {x : Rd α} {f : Nat → List CheckedField} (hx : ∀ p, Parses src p x (f p) fun _ => True)
    (hf : ∀ p, totalWidth (f p) = n) (k p : Nat) :
    Parses src p (Act.repeat x k) ((List.range k).flatMap fun i => f (p + n * i)) fun _ => True := by
  induction k generalizing p with
  | zero => exact pure trivial
  | succ k ih =>
    rw [List.range_succ_eq_map, List.flatMap_cons, List.flatMap_map]
    refine (hx p).bind fun a _ _ => ?_
    rw [hf p]
    refine ((ih (p + n)).bind_pure fun _ _ => trivial).congr ?_
    simp only [Nat.mul_succ, Nat.add_assoc, Nat.add_comm n]

end Parses

end Sys2Proof.Machine

/-! # The bit-reader family, part 3: headers and side information as strings of fields -/

namespace Sys2Proof.Machine

open Sys2Proof.Safety

section
variable (src : Src)

/-- A BitRead is a field without a check. -/
theorem bitRead_parses (n p : Nat) : Parses src p (bitRead src n) [(n, none)] (· = bitsAt src p n) := by
  rw [Parses, ending]
  split_ifs with h
  · exact bitRead_short (by omega) (by omega)
  · exact ⟨_, bitRead_ok (by omega), rfl⟩

theorem readField_parses (w p : Nat) : Parses src p (readField src w) [(w, none)] (·.toNat = bitsAt src p w) :=
  (bitRead_parses src w p).bind_pure fun v hv => by
    rw [BitVec.toNat_ofNat, hv, Nat.mod_eq_of_lt (bitsAt_lt src p w)]

theorem readFlag_parses (p : Nat) : Parses src p (readFlag src) [(1, none)] (· = decide (bitAt src p = 1)) :=
  (bitRead_parses src 1 p).bind_pure fun v hv => by
    rw [hv, bitsAt_succ, bitsAt_zero, Nat.mul_zero, Nat.zero_add, Nat.add_zero]

end

/-! ## Headers -/

/-- A header word as its fields (R161). -/
theorem writeHeader_toNat (h : Header) : (writeHeader h).toNat =
    1048576 * h.sync.toNat + 524288 * h.id.toNat + 131072 * h.layer.toNat + 65536 * h.protection.toNat +
      4096 * h.bitrateIndex.toNat + 1024 * h.samplingIndex.toNat + 512 * h.padding.toNat + 256 * h.priv.toNat +
      64 * h.mode.toNat + 16 * h.modeExt.toNat + 8 * h.copyright.toNat + 4 * h.original.toNat + h.emphasis.toNat := by
  rw [writeHeader]
  simp only [toNat_append_eq]
  omega

/-- The fields a frame's shape is read from, at their places (R161). -/
theorem writeHeader_fields (h : Header) :
    (writeHeader h).extractLsb' 16 1 = h.protection ∧ (writeHeader h).extractLsb' 12 4 = h.bitrateIndex ∧
      (writeHeader h).extractLsb' 10 2 = h.samplingIndex ∧ (writeHeader h).extractLsb' 9 1 = h.padding ∧
      (writeHeader h).extractLsb' 6 2 = h.mode := by
  refine ⟨?_, ?_, ?_, ?_, ?_⟩ <;> apply BitVec.eq_of_toNat_eq <;>
    simp only [BitVec.extractLsb'_toNat, Nat.shiftRight_eq_div_pow, writeHeader_toNat] <;> omega

/-- Two fields in a row are the bits at their place (R10). -/
theorem append_toNat_bitsAt {src : Src} {p m n : Nat} {a : BitVec m} {b : BitVec n} (ha : a.toNat = bitsAt src p m)
    (hb : b.toNat = bitsAt src (p + m) n) : (a ++ b).toNat = bitsAt src p (m + n) := by
  rw [toNat_append_eq, ha, hb, bitsAt_add]

/-- As many of the 32 bits at position `p` as are there are the bits of the word `w`, bit 31 first. -/
def WordIn (src : Src) (p : Nat) (w : Word) : Prop :=
  ∀ k < 32, k < src.len - p → decide (bitAt src (p + k) = 1) = w.getLsbD (31 - k)

theorem wordIn_of_wordAt {s : State} {p : Nat} {w : Word} (h : WordAt s p w) : WordIn (src s .inp) p w :=
  fun k hk hlen => (bitAt_src s .inp (p + k)).trans (h k hk hlen)

/-- A field of the word that is there is its bits. -/
theorem WordIn.field {src : Src} {p : Nat} {w : Word} (h : WordIn src p w) {k n : Nat} (hk : k + n ≤ 32)
    (hlen : n ≤ src.len - (p + k)) {a : BitVec n} (ha : a.toNat = bitsAt src (p + k) n) :
    w.extractLsb' (32 - k - n) n = a := by
  ext i hi
  have hbit := bitsAt_testBit src (p + k) n (n - 1 - i) (by omega)
  rw [← ha, Nat.add_assoc, h (k + (n - 1 - i)) (by omega) (by omega)] at hbit
  have hplace : n - 1 - (n - 1 - i) = i := by omega
  have hplace' : 31 - (k + (n - 1 - i)) = 32 - k - n + i := by omega
  rw [BitVec.getElem_extractLsb', ← hplace', ← hbit, hplace, BitVec.testBit_toNat, BitVec.getLsbD_eq_getElem hi]

/-- The fields of a header word in order, with their checks (R161, R281, R292). -/
def headerChecks (w : Word) : List CheckedField :=
  [(12, if w.extractLsb' 20 12 ≠ 0xFFF then some .badSync else none),
   (1, if w.getLsbD 19 = false then some .badId else none),
   (2, if w.extractLsb' 17 2 ≠ 1 then some .badLayer else none),
   (1, none),
   (4, (if w.extractLsb' 12 4 = 0 then some Err.freeFormatBitrate else none).or
     (if w.extractLsb' 12 4 = 15 then some .badBitrate else none)),
   (2, if w.extractLsb' 10 2 = 3 then some .reservedSampleRate else none),
   (1, none), (1, none), (2, none), (2, none), (1, none), (1, none),
   (2, if w.extractLsb' 0 2 = 2 then some .reservedEmphasis else none)]

theorem headerChecks_fst (w : Word) : (headerChecks w).map Prod.fst = headerFields := rfl

theorem headerChecks_firstFault (w : Word) : firstFault (headerChecks w) = headerFault w := by
  unfold headerFault headerChecks
  split_ifs <;> rfl

theorem extractLsb'_one (w : Word) (k : Nat) : w.extractLsb' k 1 = BitVec.ofBool (w.getLsbD k) := by
  ext i hi
  simp [show i = 0 by omega]

theorem parseHeader_parses {src : Src} {p : Nat} {w : Word} (hw : WordIn src p w) :
    Parses src p (parseHeader src) (headerChecks w) fun hdr => (writeHeader hdr).toNat = bitsAt src p 32 := by
  refine ((readField_parses src 12 p).check fun a ha hlen => ?_).bindField fun sync hsync _ => ?_
  · rw [← hw.field (k := 0) (by decide) hlen ha]; simp
  refine ((readField_parses src 1 _).check fun a ha hlen => ?_).bindField fun id hid _ => ?_
  · rw [← hw.field (k := 12) (by decide) hlen ha, extractLsb'_one]; cases w.getLsbD 19 <;> decide
  refine ((readField_parses src 2 _).check fun a ha hlen => ?_).bindField fun layer hlayer _ => ?_
  · rw [← hw.field (k := 13) (by decide) hlen ha]; simp
  refine (readField_parses src 1 _).bindField fun protection hprotection _ => ?_
  refine (((readField_parses src 4 _).check fun a ha hlen => ?_).check fun a ha hlen => ?_).bindField
    fun bitrateIndex hbitrate _ => ?_
  · rw [← hw.field (k := 16) (by decide) hlen ha]; simp
  · rw [← hw.field (k := 16) (by decide) hlen ha]; simp
  refine ((readField_parses src 2 _).check fun a ha hlen => ?_).bindField fun samplingIndex hsampling _ => ?_
  · rw [← hw.field (k := 20) (by decide) hlen ha]; simp
  refine (readField_parses src 1 _).bindField fun padding hpadding _ => ?_
  refine (readField_parses src 1 _).bindField fun priv hpriv _ => ?_
  refine (readField_parses src 2 _).bindField fun mode hmode _ => ?_
  refine (readField_parses src 2 _).bindField fun modeExt hmodeExt _ => ?_
  refine (readField_parses src 1 _).bindField fun copyright hcopyright _ => ?_
  refine (readField_parses src 1 _).bindField fun original horiginal _ => ?_
  refine ((readField_parses src 2 _).check fun a ha hlen => ?_).bindField fun emphasis hemphasis _ => ?_
  · rw [← hw.field (k := 30) (by decide) hlen ha]; simp
  have htop := append_toNat_bitsAt (append_toNat_bitsAt (append_toNat_bitsAt hsync hid) hlayer) hprotection
  have hrates := append_toNat_bitsAt (append_toNat_bitsAt (append_toNat_bitsAt htop hbitrate) hsampling) hpadding
  have hmodes := append_toNat_bitsAt (append_toNat_bitsAt (append_toNat_bitsAt hrates hpriv) hmode) hmodeExt
  exact .pure (append_toNat_bitsAt (append_toNat_bitsAt (append_toNat_bitsAt hmodes hcopyright) horiginal) hemphasis)

/-! ## Side information -/

/-- The fields of the granule-channel block at `b` between its split flag and its last three flags, with their checks
(R166, R298, R300). -/
def blockBody (src : Src) (b : Nat) : List CheckedField :=
  if bitAt src (b + 33) = 1 then
    [(2, if bitsAt src (b + 34) 2 = 0 then some .reservedBlockType else none),
     (1, if bitAt src (b + 36) = 1 ∧ bitsAt src (b + 34) 2 ≠ 2 then some .inconsistentSwitchPoint else none),
     (5, none), (5, none), (3, none), (3, none), (3, none)]
  else [(5, none), (5, none), (5, none), (4, none), (3, none)]

/-- The fields of the granule-channel block at `b` in order, with their checks (R166, R298, R300). -/
def blockChecks (src : Src) (b : Nat) : List CheckedField :=
  [(12, none), (9, none), (8, none), (4, none), (1, none)] ++ (blockBody src b ++ [(1, none), (1, none), (1, none)])

theorem blockChecks_fst (src : Src) (b : Nat) : (blockChecks src b).map Prod.fst = blockFields src b := by
  unfold blockChecks blockBody blockFields
  split <;> rfl

theorem totalWidth_blockChecks (src : Src) (b : Nat) : totalWidth (blockChecks src b) = 59 := by
  rw [totalWidth, blockChecks_fst, blockFields]
  split <;> rfl

theorem blockChecks_firstFault (src : Src) (b : Nat) : firstFault (blockChecks src b) = blockFault src b := by
  unfold blockChecks blockBody blockFault
  by_cases hsplit : bitAt src (b + 33) = 1
  · simp only [hsplit, true_and, if_true]
    split_ifs <;> rfl
  · simp only [hsplit, false_and, if_false]
    rfl

/-- The fields of the side information before the granule-channel blocks (R164, R165). -/
def sideHeadFields (nch : Nat) : List CheckedField :=
  [(9, none), (if nch = 1 then 5 else 3, none)] ++ List.replicate (4 * nch) (1, none)

/-- The fields of the side information at `p` in order, with their checks (R164-R166, R298, R300). -/
def sideChecks (src : Src) (p nch : Nat) : List CheckedField :=
  sideHeadFields nch ++ (List.range (2 * nch)).flatMap fun k => blockChecks src (blockAt p nch k)

theorem sideChecks_fst (src : Src) (p nch : Nat) : (sideChecks src p nch).map Prod.fst = sideFields src p nch := by
  simp [sideChecks, sideHeadFields, sideFields, List.map_flatMap, blockChecks_fst]

section
variable (src : Src) (p : Nat) {nch : Nat} (hnch : nch = 1 ∨ nch = 2)
include hnch

theorem firstFault_sideHeadFields : firstFault (sideHeadFields nch) = none := by rcases hnch with rfl | rfl <;> rfl

theorem totalWidth_sideHeadFields : totalWidth (sideHeadFields nch) = sideHead nch := by
  rcases hnch with rfl | rfl <;> rfl

theorem totalWidth_sideChecks : totalWidth (sideChecks src p nch) = sideBits nch := by
  rw [sideChecks, totalWidth_append, totalWidth_sideHeadFields hnch,
    totalWidth_flatMap fun k => totalWidth_blockChecks src _]
  rcases hnch with rfl | rfl <;> rfl

theorem sideChecks_firstFault : firstFault (sideChecks src p nch) = sideFault src p nch := by
  rw [sideChecks, firstFault_append, firstFault_sideHeadFields hnch, totalWidth_sideHeadFields hnch,
    firstFault_flatMap fun k => totalWidth_blockChecks src _, Option.none_or, List.map_findSome?, sideFault]
  simp only [Function.comp_def, map_afterBits, blockChecks_firstFault]
  rfl

end

section
variable (src : Src)

theorem parseSplitFields_parses (b : Nat) : Parses src b (parseSplitFields src)
    [(2, if bitsAt src b 2 = 0 then some .reservedBlockType else none),
     (1, if bitAt src (b + 2) = 1 ∧ bitsAt src b 2 ≠ 2 then some .inconsistentSwitchPoint else none),
     (5, none), (5, none), (3, none), (3, none), (3, none)] fun _ => True := by
  refine ((readField_parses src 2 b).check fun a ha _ => ?_).bindField fun blockType hblock _ => ?_
  · rw [← ha]; simp [BitVec.toNat_eq]
  refine ((readFlag_parses src _).check fun a ha _ => ?_).bindField fun switchPoint _ _ => ?_
  · rw [← hblock, ha]; simp [BitVec.toNat_eq]
  refine (readField_parses src 5 _).bindField fun t0 _ _ => ?_
  refine (readField_parses src 5 _).bindField fun t1 _ _ => ?_
  refine (readField_parses src 3 _).bindField fun g0 _ _ => ?_
  refine (readField_parses src 3 _).bindField fun g1 _ _ => ?_
  exact (readField_parses src 3 _).bind_pure fun _ _ => trivial

theorem parseNormalFields_parses (b : Nat) : Parses src b (parseNormalFields src)
    [(5, none), (5, none), (5, none), (4, none), (3, none)] fun _ => True := by
  refine (readField_parses src 5 b).bindField fun t0 _ _ => ?_
  refine (readField_parses src 5 _).bindField fun t1 _ _ => ?_
  refine (readField_parses src 5 _).bindField fun t2 _ _ => ?_
  refine (readField_parses src 4 _).bindField fun ra1 _ _ => ?_
  exact (readField_parses src 3 _).bind_pure fun _ _ => trivial

theorem parseGranInfo_parses (b : Nat) :
    Parses src b (parseGranInfo src) (blockChecks src b) fun _ => True := by
  refine (readField_parses src 12 b).bindField fun part23Length _ _ => ?_
  refine (readField_parses src 9 _).bindField fun bigValues _ _ => ?_
  refine (readField_parses src 8 _).bindField fun globalGain _ _ => ?_
  refine (readField_parses src 4 _).bindField fun scalefacCompress _ _ => ?_
  refine (readFlag_parses src _).bindField fun split hsplit _ => ?_
  refine Parses.bind (l := blockBody src b) (V := fun _ => True) ?_ fun x _ _ => ?_
  · rw [blockBody]
    by_cases hbit : bitAt src (b + 33) = 1
    · rw [if_pos hbit, if_pos (hsplit.trans (decide_eq_true hbit))]
      exact (parseSplitFields_parses src (b + 34)).bind_pure fun _ _ => trivial
    · rw [if_neg hbit, if_neg (by rw [hsplit]; simpa using hbit)]
      exact (parseNormalFields_parses src _).bind_pure fun _ _ => trivial
  · refine (readFlag_parses src _).bindField fun preflag _ _ => ?_
    refine (readFlag_parses src _).bindField fun scalefacScale _ _ => ?_
    exact (readFlag_parses src _).bind_pure fun count1Table _ => trivial

theorem parsePrivateBits_parses (nch p : Nat) :
    Parses src p (parsePrivateBits src nch) [(if nch = 1 then 5 else 3, none)] fun _ => True :=
  (bitRead_parses src _ p).bind_pure fun _ _ => trivial

theorem scfsi_parses {nch : Nat} (hnch : nch = 1 ∨ nch = 2) (p : Nat) :
    Parses src p (Act.repeat (Act.repeat (readFlag src) 4) nch) (List.replicate (4 * nch) (1, none)) fun _ => True := by
  have hflag (q : Nat) : Parses src q (readFlag src) [(1, none)] fun _ => True :=
    (readFlag_parses src q).mono fun _ _ => trivial
  refine (Parses.replicate (n := 4) (Parses.replicate hflag (fun _ => rfl) 4) (fun _ => rfl) nch p).congr ?_
  rcases hnch with rfl | rfl <;> rfl

/-- The granule-channel blocks of a granule, the first of them being block `k`. -/
theorem blocks_parses (nch p k : Nat) : Parses src (blockAt p nch k) (Act.repeat (parseGranInfo src) nch)
    ((List.range nch).flatMap fun i => blockChecks src (blockAt p nch (k + i))) fun _ => True := by
  refine (Parses.replicate (parseGranInfo_parses src) (totalWidth_blockChecks src) nch _).congr ?_
  simp only [blockAt, Nat.mul_add, Nat.add_assoc]

/-- The blocks of the second granule begin where those of the first end. -/
theorem blockAt_add_totalWidth (p nch m : Nat) :
    blockAt p nch 0 + totalWidth ((List.range m).flatMap fun k => blockChecks src (blockAt p nch (0 + k))) =
      blockAt p nch m := by
  rw [totalWidth_flatMap fun k => totalWidth_blockChecks src _, blockAt, blockAt]
  omega

theorem parseSideInfo_parses {nch : Nat} (hnch : nch = 1 ∨ nch = 2) (p : Nat) :
    Parses src p (parseSideInfo src nch) (sideChecks src p nch) (SideInfoHolds src p nch) := by
  have hfields : Parses src p (parseSideInfo src nch) (sideChecks src p nch) fun _ => True := by
    have hstart : p + 9 + (if nch = 1 then 5 else 3) + totalWidth (List.replicate (4 * nch) (1, none)) =
        blockAt p nch 0 := by
      rcases hnch with rfl | rfl <;> rfl
    refine Parses.congr (l := (9, none) :: (if nch = 1 then 5 else 3, none) :: (List.replicate (4 * nch) (1, none) ++
      (((List.range nch).flatMap fun i => blockChecks src (blockAt p nch (0 + i))) ++
        (List.range nch).flatMap fun i => blockChecks src (blockAt p nch (nch + i))))) ?_ ?_
    · refine (readField_parses src 9 p).bindField fun mainDataEnd _ _ => ?_
      refine (parsePrivateBits_parses src nch _).bindField fun privateBits _ _ => ?_
      refine (scfsi_parses src hnch _).bind fun scfsi _ _ => ?_
      rw [hstart]
      refine (blocks_parses src nch p 0).bind fun gr0 _ _ => ?_
      rw [blockAt_add_totalWidth]
      exact (blocks_parses src nch p nch).bind_pure fun gr1 _ => trivial
    · simp [sideChecks, sideHeadFields, Nat.two_mul, List.range_add, List.flatMap_map]
  exact (hfields.and fun a q h => (parseSideInfo_takes src hnch p a q h).2.2).mono fun a h => h.2

end

end Sys2Proof.Machine

/-! # The bit-reader family, part 4: PARSE_FRAME -/

namespace Sys2Proof.Machine

open Sys2Proof.Safety

/-! ## The head of a frame -/

/-- Header, CRC word and side information: the parse of a frame up to its payload (R302). -/
def parseHead (src : Src) : Rd (Header × Option (BitVec 16) × SideInfo) :=
  (parseHeader src).bind fun hdr => (parseCrc src hdr).bind fun crc =>
    (parseSideInfo src (nchOf hdr)).bind fun si => Act.pure (hdr, crc, si)

/-- The frame of a head parsed at `p` and its payload (R302). -/
def frameOf (cfg : Config.Params) (p : Nat) (x : Header × Option (BitVec 16) × SideInfo)
    (payload : List Byte) : Frame :=
  { fidx := 0, off := p / 8, hdr := x.1, crc := x.2.1, nch := nchOf x.1, si := x.2.2,
    hsLen := headLen x.2.1 (nchOf x.1), payload, size := frameSize cfg x.1 }

theorem parseFrame_eq (cfg : Config.Params) (src : Src) (p : Nat) : parseFrame cfg src p =
    ((parseHead src).bind fun x => (byteRead src (frameSize cfg x.1 - headLen x.2.1 (nchOf x.1))).bind fun payload =>
      Act.pure (frameOf cfg p x payload)) p := by
  simp only [parseHead, Act.bind_assoc, Act.pure_bind]
  rfl

/-- The field of the CRC word, there when protection, bit 16 of the header word, is 0 (R296). -/
def crcFields (w : Word) : List CheckedField := if w.getLsbD 16 then [] else [(16, none)]

/-- The fields of the head of a frame at `p` whose header word is `w`, in order, with their checks (R302). -/
def headChecks (src : Src) (p : Nat) (w : Word) : List CheckedField :=
  headerChecks w ++ (crcFields w ++ sideChecks src (p + headBits w) (wordChannels w))

theorem totalWidth_headerChecks (w : Word) : totalWidth (headerChecks w) = 32 := by
  rw [totalWidth, headerChecks_fst]
  rfl

theorem totalWidth_headerChecks_crcFields (w : Word) : 32 + totalWidth (crcFields w) = headBits w := by
  rw [crcFields, headBits]
  split <;> rfl

theorem wordChannels_cases (w : Word) : wordChannels w = 1 ∨ wordChannels w = 2 := by
  rw [wordChannels]
  split <;> simp

theorem totalWidth_headChecks (src : Src) (p : Nat) (w : Word) :
    totalWidth (headChecks src p w) = headBits w + sideBits (wordChannels w) := by
  rw [headChecks, totalWidth_append, totalWidth_append, totalWidth_headerChecks,
    totalWidth_sideChecks _ _ (wordChannels_cases w), ← Nat.add_assoc, totalWidth_headerChecks_crcFields]

/-- The head at `p` holds the bits there, `w` being the header word. -/
structure HeadHolds (src : Src) (p : Nat) (w : Word) (x : Header × Option (BitVec 16) × SideInfo) : Prop where
  word : writeHeader x.1 = w
  legal : HeaderLegal x.1
  crc : x.2.1 = if w.getLsbD 16 then none else some (BitVec.ofNat 16 (bitsAt src (p + 32) 16))
  side : SideInfoHolds src (p + headBits w) (wordChannels w) x.2.2

theorem protection_eq_zero {h : Header} {w : Word} (hw : writeHeader h = w) :
    h.protection = 0 ↔ w.getLsbD 16 = false := by
  obtain ⟨hprotection, -⟩ := writeHeader_fields h
  rw [← hprotection, hw, extractLsb'_one]
  cases w.getLsbD 16 <;> decide

theorem nchOf_eq {h : Header} {w : Word} (hw : writeHeader h = w) : nchOf h = wordChannels w := by
  obtain ⟨-, -, -, -, hmode⟩ := writeHeader_fields h
  rw [nchOf, wordChannels, ← hw, hmode]

theorem frameSize_eq {h : Header} {w : Word} (hw : writeHeader h = w) (cfg : Config.Params) :
    frameSize cfg h = wordFrameSize cfg w := by
  obtain ⟨-, hbitrate, hsampling, hpadding, -⟩ := writeHeader_fields h
  rw [frameSize, wordFrameSize, ← hw, hbitrate, hsampling, hpadding]

theorem parseCrc_parses (src : Src) (p : Nat) {h : Header} {w : Word} (hw : writeHeader h = w) :
    Parses src p (parseCrc src h) (crcFields w) fun crc =>
      crc = if w.getLsbD 16 then none else some (BitVec.ofNat 16 (bitsAt src p 16)) := by
  rw [parseCrc, crcFields]
  by_cases hbit : w.getLsbD 16 = true
  · rw [if_neg (by rw [protection_eq_zero hw, hbit]; nofun), if_pos hbit, if_pos hbit]
    exact .pure rfl
  · rw [if_pos ((protection_eq_zero hw).2 (Bool.of_not_eq_true hbit)), if_neg hbit, if_neg hbit]
    refine (readField_parses src 16 p).bind_pure fun c hc => ?_
    rw [← hc, BitVec.ofNat_toNat, BitVec.setWidth_eq]

theorem parseHead_parses {src : Src} {p : Nat} {w : Word} (hw : WordIn src p w) :
    Parses src p (parseHead src) (headChecks src p w) (HeadHolds src p w) := by
  have hlegal (a : Header) (q : Nat) (h : parseHeader src p = .ok a q) : HeaderLegal a :=
    ((Act.wp_of_ok h).1 (parseHeader_reads p)).1
  refine ((parseHeader_parses hw).and hlegal).bind fun hdr ⟨hbits, hlegal⟩ hlen => ?_
  rw [totalWidth_headerChecks] at hlen ⊢
  have hword : writeHeader hdr = w := by
    rw [← hw.field (k := 0) le_rfl hlen hbits, BitVec.extractLsb'_eq_self]
  refine (parseCrc_parses src _ hword).bind fun crc hcrc _ => ?_
  rw [Nat.add_assoc, totalWidth_headerChecks_crcFields, nchOf_eq hword]
  exact (parseSideInfo_parses src (wordChannels_cases w) _).bind_pure fun si hsi => ⟨hword, hlegal, hcrc, hsi⟩

/-- Past the header, a cut CRC word ends the parse of the head. -/
theorem ending_crcFields (w : Word) {r : Nat} (hr : 32 ≤ r) :
    ending (crcFields w) (r - 32) = if r < headBits w then some (.unexpectedEnd, 0) else none := by
  rw [crcFields, headBits]
  by_cases hbit : w.getLsbD 16 = true
  · rw [if_pos hbit, if_pos hbit, if_neg (by omega)]
    rfl
  · rw [if_neg hbit, if_neg hbit, ending]
    exact if_congr (by omega) rfl rfl

/-- The end of a frame's parse: that of its head, else that of its payload. -/
theorem frameFault_eq (cfg : Config.Params) (src : Src) (p : Nat) (w : Word) (r : Nat) : frameFault cfg src p w r =
    (ending (headChecks src p w) r).or
      (if p % 8 ≠ 0 then some (.misalignedRead, headBits w + sideBits (wordChannels w))
      else if r < 8 * wordFrameSize cfg w then some (.unexpectedEnd, r) else none) := by
  rw [frameFault, ← headerChecks_fst w, ← headerChecks_firstFault, readOutcome_eq_ending, ← sideChecks_fst,
    ← sideChecks_firstFault _ _ (wordChannels_cases w), readOutcome_eq_ending, headChecks, ending_append, ending_append,
    totalWidth_headerChecks, Nat.sub_sub, totalWidth_headerChecks_crcFields]
  cases hheader : ending (headerChecks w) r with
  | some x => rfl
  | none =>
    have hlen := totalWidth_le_of_ending hheader
    rw [totalWidth_headerChecks] at hlen
    rw [ending_crcFields w hlen, Option.none_or, Option.map_or, map_afterBits, totalWidth_headerChecks_crcFields]
    by_cases hcrc : r < headBits w
    · simp only [if_pos hcrc]
      rfl
    · simp only [if_neg hcrc]
      cases ending (sideChecks src (p + headBits w) (wordChannels w)) (r - headBits w) <;> rfl

/-! ## The whole frame -/

/-- The bytes of the head of a frame whose header word is `w` (R297). -/
def headBytes (w : Word) : Nat := (headBits w + sideBits (wordChannels w)) / 8

theorem headBytes_eq (w : Word) : 8 * headBytes w = headBits w + sideBits (wordChannels w) := by
  rw [headBytes, headBits, sideBits]
  split_ifs <;> rfl

section
variable {cfg : Config.Params} {src : Src} {p : Nat} {w : Word} {x : Header × Option (BitVec 16) × SideInfo}

theorem HeadHolds.headLen (h : HeadHolds src p w x) : headLen x.2.1 (nchOf x.1) = headBytes w := by
  rw [Machine.headLen, headBytes, nchOf_eq h.word, h.crc, headBits, sideBits]
  cases w.getLsbD 16 <;> rcases wordChannels_cases w with hn | hn <;> simp [hn]

/-- With this hardware's tables a frame has a payload (R42, R294). -/
theorem HeadHolds.short (h : HeadHolds src p w x) (hcfg : TablesOk cfg) : headBytes w < wordFrameSize cfg w := by
  obtain ⟨hsize, -⟩ := frameSize_bounds hcfg h.legal
  obtain ⟨-, hhead⟩ := headLen_le x.2.1 (nchOf x.1)
  rw [frameSize_eq h.word] at hsize
  rw [h.headLen] at hhead
  omega

/-- After a head that is there, the payload is read (R302). -/
theorem parseFrame_of_head (cfg : Config.Params) (hw : WordIn src p w)
    (h : ending (headChecks src p w) (src.len - p) = none) : ∃ x, HeadHolds src p w x ∧ parseFrame cfg src p =
      ((byteRead src (wordFrameSize cfg w - headBytes w)).bind fun payload => Act.pure (frameOf cfg p x payload))
        (p + 8 * headBytes w) := by
  obtain ⟨x, hx, hhead⟩ := (parseHead_parses hw).of_none h
  rw [totalWidth_headChecks, ← headBytes_eq] at hx
  exact ⟨x, hhead, by rw [parseFrame_eq, Act.bind_of_ok hx, frameSize_eq hhead.word, hhead.headLen]⟩

theorem parseFrame_err (hcfg : TablesOk cfg) (hw : WordIn src p w) {e : Err} {n : Nat}
    (h : frameFault cfg src p w (src.len - p) = some (e, n)) : parseFrame cfg src p = .err e (p + n) := by
  rw [frameFault_eq] at h
  cases hend : ending (headChecks src p w) (src.len - p) with
  | some y =>
    rw [hend, Option.some_or] at h
    rw [parseFrame_eq]
    exact Act.bind_of_err ((parseHead_parses hw).of_some (hend.trans h))
  | none =>
    obtain ⟨x, hx, hframe⟩ := parseFrame_of_head cfg hw hend
    have hshort := hx.short hcfg
    have hbytes := headBytes_eq w
    have hlen := totalWidth_le_of_ending hend
    rw [totalWidth_headChecks, ← headBytes_eq] at hlen
    rw [hend, Option.none_or, ← headBytes_eq] at h
    rw [hframe]
    rcases byteRead_cases src (wordFrameSize cfg w - headBytes w) (p + 8 * headBytes w) with
      ⟨ha, hread⟩ | ⟨ha, -, hcut, hread⟩ | ⟨ha, hthere, -⟩
    · rw [if_pos (by omega)] at h
      cases h
      exact Act.bind_of_err hread
    · rw [if_neg (by omega), if_pos (by omega)] at h
      cases h
      rw [Act.bind_of_err hread]
      congr 1
      omega
    · rw [if_neg (by omega), if_neg (by omega)] at h
      cases h

/-- The frame at `p` holds the bits and bytes there, `w` being its header word (R302). -/
structure FrameHolds (cfg : Config.Params) (src : Src) (p : Nat) (w : Word) (f : Frame) : Prop where
  off : f.off = p / 8
  word : writeHeader f.hdr = w
  nch : f.nch = wordChannels w
  size : f.size = wordFrameSize cfg w
  hsLen : f.hsLen = (headBits w + sideBits f.nch) / 8
  crc : f.crc = if w.getLsbD 16 then none else some (BitVec.ofNat 16 (bitsAt src (p + 32) 16))
  side : SideInfoHolds src (p + headBits w) f.nch f.si
  short : f.hsLen < f.size
  payload : f.payload = bytesAt src (f.off + f.hsLen) (f.size - f.hsLen)

theorem parseFrame_ok (hcfg : TablesOk cfg) (hw : WordIn src p w)
    (h : frameFault cfg src p w (src.len - p) = none) :
    ∃ f, parseFrame cfg src p = .ok f (p + 8 * f.size) ∧ FrameHolds cfg src p w f := by
  rw [frameFault_eq, Option.or_eq_none_iff] at h
  obtain ⟨hend, hrest⟩ := h
  split_ifs at hrest with ha hcut
  obtain ⟨x, hx, hframe⟩ := parseFrame_of_head cfg hw hend
  have hshort := hx.short hcfg
  have hread := byteRead_ok (src := src) (n := wordFrameSize cfg w - headBytes w) (p := p + 8 * headBytes w)
    (by omega) (.inr (by omega))
  have hnch (b : List Byte) : (frameOf cfg p x b).nch = wordChannels w := nchOf_eq hx.word
  have hsize (b : List Byte) : (frameOf cfg p x b).size = wordFrameSize cfg w := frameSize_eq hx.word cfg
  have hhead (b : List Byte) : (frameOf cfg p x b).hsLen = headBytes w := hx.headLen
  refine ⟨frameOf cfg p x (bytesAt src ((p + 8 * headBytes w) / 8) (wordFrameSize cfg w - headBytes w)), ?_,
    rfl, hx.word, hnch _, hsize _, ?_, hx.crc, ?_, ?_, ?_⟩
  · rw [hframe, Act.bind_of_ok hread, Act.pure_apply, hsize]
    congr 1
    omega
  · rw [hhead, hnch, headBytes]
  · rw [hnch]
    exact hx.side
  · rwa [hhead, hsize]
  · have hplace : (p + 8 * headBytes w) / 8 = p / 8 + headBytes w := by omega
    rw [hhead, hsize, frameOf, hplace]

end

/-! ## The command -/

/-- The ERR word of a stream error, as a sum of its fields (R39, R621). -/
theorem errWord_stream (opc : BitVec 8) (e : Err) :
    errWord opc .stream e = 0x100 + 0x10000 * opc.zeroExtend 32 + e.code.zeroExtend 32 := by
  have hopc := opc.isLt
  have hcode := e.code.isLt
  apply BitVec.eq_of_toNat_eq
  simp only [errWord_toNat, BitVec.toNat_add, BitVec.toNat_mul, BitVec.truncate_eq_setWidth, BitVec.toNat_setWidth,
    BitVec.ofNat_eq_ofNat, BitVec.toNat_ofNat, ErrClass.code]
  omega

section
variable {s : State} (hs : Ready s)
include hs

theorem exec_parseFrame_ok {f : Frame} {p : Nat} (h : parseFrame s.cfg (src s .inp) s.inPos = .ok f p) :
    exec .parseFrame s = .next { s with
      frm := { f with fidx := s.frameCnt.toNat }, frmValid := true, frameCnt := s.frameCnt + 1, mdValid := false
      mdst := .const .none, tag := .const .none, mdbuf := [], mdPos := 0, mdRef := []
      outFrames := s.outFrames ++ [⟨{ f with fidx := s.frameCnt.toNat }, bytesAt (src s .inp) f.off f.hsLen⟩]
      inPos := p, result0 := s.frameCnt, result1 := wordOfNat f.size } := by
  have hparse := onReader_ok (r := .inp) (f := parseFrame s.cfg) h
  have hcount : wordOfNat s.frameCnt.toNat = s.frameCnt := by rw [wordOfNat, BitVec.ofNat_toNat, BitVec.setWidth_eq]
  refine command_ok (modeRefuses_of_ready hs 0x22) ?_
  rw [Act.bind_of_ok hparse, Act.modify_apply]
  simp only [setResults, commitFrame, clearStages, setPos, hcount]
  rfl

theorem exec_parseFrame_err {e : Err} {p : Nat} (h : parseFrame s.cfg (src s .inp) s.inPos = .err e p) :
    exec .parseFrame s = .next { s with
      inPos := p
      err := 0x00220100 + e.code.zeroExtend 32
      irqStatus := s.irqStatus ||| 0b100 } := by
  have hparse := onReader_err (r := .inp) (f := parseFrame s.cfg) h
  have hcls : e.cls false = .stream := ((Act.wp_of_err h).1 (parseFrame_reads s.cfg s.inPos)).1
  have herr := errWord_stream 0x22 e
  rw [← hcls] at herr
  refine (command_err (main := false) (modeRefuses_of_ready hs 0x22) (Act.bind_of_err hparse)).trans ?_
  rw [record, herr]
  rfl

end

end Sys2Proof.Machine

namespace Sys2Proof.Proofs

open Sys2Proof.Machine Sys2Proof.Safety

/-- Settles O21: the fields of the head in order say how its parse ends, and the payload comes after them. -/
theorem parseFrame : Obligations.ParseFrame := by
  intro s w hs htables hw
  have hword := wordIn_of_wordAt hw
  refine ⟨fun h => ?_, fun e n h => exec_parseFrame_err hs (parseFrame_err htables hword h)⟩
  obtain ⟨f, hparse, hf⟩ := parseFrame_ok htables hword h
  refine ⟨{ f with fidx := s.frameCnt.toNat }, rfl, hf.off, hf.word, hf.nch, hf.size, hf.hsLen, hf.crc, hf.side,
    hf.short, ?_, fun i hi => ?_, bytesAt (src s .inp) f.off f.hsLen, bytesAt_length _ _ _, fun i hi => ?_, ?_⟩
  · rw [hf.payload, bytesAt_length]
  · rw [hf.payload, bytesAt_getD _ _ hi, src_byte]
  · rw [bytesAt_getD _ _ hi, src_byte]
  · exact (exec_parseFrame_ok hs hparse :)

end Sys2Proof.Proofs

/-! # The parser and reservoir family, part 1: headers and side information -/

namespace Sys2Proof.Machine

open Sys2Proof.Safety

/-! ## How the parses end -/

/-- The parse of a header ends as its checked fields do (R280, R281). -/
theorem readOutcome_header (w : Word) (r : Nat) :
    readOutcome (headerFault w) headerFields r = ending (headerChecks w) r := by
  rw [← headerChecks_firstFault, ← headerChecks_fst, readOutcome_eq_ending]

/-- The parse of side information ends as its checked fields do (R280, R298). -/
theorem readOutcome_side (src : Src) (p r : Nat) {nch : Nat} (hnch : nch = 1 ∨ nch = 2) :
    readOutcome (sideFault src p nch) (sideFields src p nch) r = ending (sideChecks src p nch) r := by
  rw [← sideChecks_firstFault src p hnch, ← sideChecks_fst, readOutcome_eq_ending]

/-- A word that passes its checks and is there whole parses (R281). -/
theorem ending_headerChecks {w : Word} {r : Nat} (hw : headerFault w = none) (hr : 32 ≤ r) :
    ending (headerChecks w) r = none := by
  rw [← readOutcome_header, hw]
  exact if_pos hr

/-! ## Header words -/

/-- A header is told by its word (R305). -/
theorem writeHeader_injective : Function.Injective writeHeader := by
  intro h h' hw
  have hn := congrArg BitVec.toNat hw
  cases h
  cases h'
  simp only [writeHeader_toNat] at hn
  simp only [Header.mk.injEq, ← BitVec.toNat_inj]
  omega

/-- The fields of a header word that are checked beside those of the frame's shape, at their places (R161, R292). -/
theorem writeHeader_checkedFields (h : Header) :
    (writeHeader h).extractLsb' 20 12 = h.sync ∧ (writeHeader h).extractLsb' 19 1 = h.id ∧
      (writeHeader h).extractLsb' 17 2 = h.layer ∧ (writeHeader h).extractLsb' 0 2 = h.emphasis := by
  refine ⟨?_, ?_, ?_, ?_⟩ <;> apply BitVec.eq_of_toNat_eq <;>
    simp only [BitVec.extractLsb'_toNat, Nat.shiftRight_eq_div_pow, writeHeader_toNat] <;> omega

/-- The word of a legal header passes every check (R292). -/
theorem headerFault_writeHeader {h : Header} (hh : HeaderLegal h) : headerFault (writeHeader h) = none := by
  obtain ⟨hsync, hid, hlayer, hfree, hbad, hsampling, hemphasis⟩ := hh
  obtain ⟨-, hbitrateAt, hsamplingAt, -, -⟩ := writeHeader_fields h
  obtain ⟨hsyncAt, hidAt, hlayerAt, hemphasisAt⟩ := writeHeader_checkedFields h
  have hidBit : (writeHeader h).getLsbD 19 ≠ false := fun hbit => by
    rw [extractLsb'_one, hbit, hid] at hidAt
    exact absurd hidAt (by decide)
  rw [headerFault, hsyncAt, hlayerAt, hbitrateAt, hsamplingAt, hemphasisAt, if_neg (not_not.2 hsync), if_neg hidBit,
    if_neg (not_not.2 hlayer), if_neg hfree, if_neg hbad, if_neg hsampling, if_neg hemphasis]

/-- The 32 bits at `p` as a word. -/
theorem wordIn_bitsAt (src : Src) (p : Nat) : WordIn src p (wordOfNat (bitsAt src p 32)) := fun k hk _ =>
  ((wordOfNat_bitsAt src p le_rfl).1 k hk).symm

/-- A header word that is there and passes its checks parses to the header of that word (R305). -/
theorem parseHeader_ok {src : Src} {p : Nat} {w : Word} (hw : WordIn src p w)
    (h : ending (headerChecks w) (src.len - p) = none) :
    ∃ hdr, parseHeader src p = .ok hdr (p + 32) ∧ writeHeader hdr = w := by
  obtain ⟨hdr, hparse, hbits⟩ := (parseHeader_parses hw).of_none h
  have hlen := totalWidth_le_of_ending h
  rw [totalWidth_headerChecks] at hparse hlen
  refine ⟨hdr, hparse, ?_⟩
  rw [← hw.field (k := 0) le_rfl hlen hbits, BitVec.extractLsb'_eq_self]

/-- A header that parsed is that of the word there (R305). -/
theorem writeHeader_of_parseHeader {src : Src} {p q : Nat} {hdr : Header} (h : parseHeader src p = .ok hdr q) :
    writeHeader hdr = wordOfNat (bitsAt src p 32) := by
  have hw := wordIn_bitsAt src p
  cases hend : ending (headerChecks (wordOfNat (bitsAt src p 32))) (src.len - p) with
  | some y => exact absurd (h.symm.trans ((parseHeader_parses hw).of_some hend)) nofun
  | none =>
    obtain ⟨hdr', hparse, hword⟩ := parseHeader_ok hw hend
    rw [h] at hparse
    cases hparse
    exact hword

/-! ## The commands -/

/-- A command on BR_IN whose parse raises a stream error records it, with the position the parse left (R280, R620). -/
theorem command_parse_err {α : Type} {opc : BitVec 8} {f : Src → Rd α} {k : α → Cmd Unit} {V : α → Prop} {s : State}
    (hs : Ready s) (hf : Reads (src s .inp) V StreamErr (f (src s .inp))) {e : Err} {p : Nat}
    (h : f (src s .inp) s.inPos = .err e p) :
    command opc false ((onReader .inp f).bind k) s = .next { s with
      inPos := p
      err := 0x100 + 0x10000 * opc.zeroExtend 32 + e.code.zeroExtend 32
      irqStatus := s.irqStatus ||| 0b100 } := by
  have hcls : e.cls false = .stream := ((Act.wp_of_err h).1 (hf s.inPos)).1
  refine (command_err (main := false) (modeRefuses_of_ready hs opc)
    (Act.bind_of_err (onReader_err (r := .inp) h))).trans ?_
  rw [hcls, record, errWord_stream]
  rfl

section
variable {s : State} (hs : Ready s)
include hs

/-- PARSE_HEADER of a header that parses (R295). -/
theorem exec_parseHeader_ok {hdr : Header} {p : Nat} (h : parseHeader (src s .inp) s.inPos = .ok hdr p) :
    exec .parseHeader s = .next { s with
      inPos := p, result0 := wordOfNat (bitsAt (src s .inp) s.inPos 32), result1 := wordOfNat (frameSize s.cfg hdr) } :=
  command_ok (main := false) (modeRefuses_of_ready hs 0x20) (Act.bind_of_ok (onReader_ok (r := .inp) h))

/-- PARSE_SIDEINFO of side information that parses (R301). -/
theorem exec_parseSideinfo_ok {nch : Nat} (hnch : nch = if s.arg.getLsbD 0 then 2 else 1) {si : SideInfo} {p : Nat}
    (h : parseSideInfo (src s .inp) nch s.inPos = .ok si p) :
    exec .parseSideinfo s = .next { s with
      inPos := p, result0 := si.mainDataEnd.setWidth 32, result1 := wordOfNat ((p - s.inPos) / 8) } := by
  subst hnch
  exact command_ok (main := false) (modeRefuses_of_ready hs 0x21) (Act.bind_of_ok
    (onReader_ok (r := .inp) (f := fun src => parseSideInfo src (if argBit0 s then 2 else 1)) h))

end

end Sys2Proof.Machine

namespace Sys2Proof.Proofs

open Sys2Proof.Machine Sys2Proof.Safety

/-- Settles O17: the fields of a header word are its header, and a parse gives the header of the word it read. -/
theorem headerRoundTrip : Obligations.HeaderRoundTrip := by
  refine ⟨fun src p h hlegal hlen hbits => ?_, fun src p q h hparse => ?_⟩
  · have hw := wordIn_bitsAt src p
    rw [hbits, wordOfNat, BitVec.ofNat_toNat, BitVec.setWidth_eq] at hw
    obtain ⟨hdr, hparse, hword⟩ := parseHeader_ok hw
      (ending_headerChecks (headerFault_writeHeader hlegal) (by omega))
    rwa [writeHeader_injective hword] at hparse
  · obtain ⟨rfl, hlen, -⟩ := parseHeader_takes src p h q hparse
    obtain ⟨hlegal, -⟩ := (Act.wp_of_ok hparse).1 (parseHeader_reads p)
    refine ⟨rfl, by omega, hlegal, ?_⟩
    rw [writeHeader_of_parseHeader hparse, wordOfNat, BitVec.toNat_ofNat, Nat.mod_eq_of_lt (bitsAt_lt src p 32)]

/-- Settles O18: the command ends as the checked fields of the word do. -/
theorem parseHeader : Obligations.ParseHeader := by
  intro s w hs hw
  have hword := wordIn_of_wordAt hw
  rw [readOutcome_header]
  cases hend : ending (headerChecks w) (bitsLeft s s.inPos) with
  | none =>
    obtain ⟨hdr, hparse, hw⟩ := parseHeader_ok hword hend
    rw [exec_parseHeader_ok hs hparse, frameSize_eq hw, ← writeHeader_of_parseHeader hparse, hw]
    rfl
  | some x => exact command_parse_err (opc := 0x20) hs parseHeader_reads ((parseHeader_parses hword).of_some hend)

/-- Settles O20: the command ends as the checked fields of the side information do. -/
theorem parseSideinfo : Obligations.ParseSideinfo := by
  intro s nch hs harg
  have hnch : nch = 1 ∨ nch = 2 := by rw [harg]; split <;> simp
  have hparses := parseSideInfo_parses (src s .inp) hnch s.inPos
  rw [readOutcome_side _ _ _ hnch]
  cases hend : ending (sideChecks (src s .inp) s.inPos nch) (bitsLeft s s.inPos) with
  | none =>
    obtain ⟨si, hparse, hmain, -⟩ := hparses.of_none hend
    rw [totalWidth_sideChecks _ _ hnch] at hparse
    rw [exec_parseSideinfo_ok hs harg hparse, ← hmain, ← BitVec.ofNat_toNat, Nat.add_sub_cancel_left]
    rcases hnch with rfl | rfl <;> rfl
  | some x =>
    have herr := hparses.of_some hend
    subst harg
    exact command_parse_err (opc := 0x21) (f := fun src => parseSideInfo src (if argBit0 s then 2 else 1)) hs
      (parseSideInfo_reads _) herr

end Sys2Proof.Proofs

/-! # The parser and reservoir family, part 2: the bit reservoir -/

namespace Sys2Proof.Machine

open Sys2Proof.Safety

/-! ## Borrowed bytes -/

/-- What one entry supplies (R311). -/
theorem borrowed_singleton (e : HistEntry) (k : Nat) : borrowed [e] k =
    if min k e.bytes.length = 0 then []
    else [⟨e.fidx, e.off + e.bytes.length - min k e.bytes.length, min k e.bytes.length⟩] :=
  List.append_nil _

/-- The oldest entry supplies what the newer ones do not (R311). -/
theorem borrowed_cons (e : HistEntry) (es : List HistEntry) (k : Nat) :
    borrowed (e :: es) k = borrowed [e] (k - histTotal es) ++ borrowed es k := by
  rw [borrowed_singleton]
  rfl

/-- Nothing is borrowed where nothing is needed (R311). -/
theorem borrowed_zero (h : List HistEntry) : borrowed h 0 = [] := by
  induction h with
  | nil => rfl
  | cons e es ih => rw [borrowed_cons, ih, Nat.zero_sub, borrowed_singleton, Nat.zero_min]; rfl

/-- The newest entry supplies its end first; the older ones supply what is still needed (R311). -/
theorem borrowed_append_singleton (h : List HistEntry) (e : HistEntry) (k : Nat) :
    borrowed (h ++ [e]) k = borrowed h (k - e.bytes.length) ++ borrowed [e] k := by
  induction h with
  | nil => rfl
  | cons a h ih =>
    have hneed : k - histTotal (h ++ [e]) = k - e.bytes.length - histTotal h := by
      simp only [histTotal, List.map_append, List.map_singleton, List.sum_append, List.sum_singleton]
      omega
    rw [List.cons_append, borrowed_cons, ih, borrowed_cons a h, hneed, List.append_assoc]

/-- The loop of ByteRefs, newest entry first, names the bytes borrowed in order (R311). -/
theorem byteRefsFrom_eq (h : List HistEntry) (need : Nat) (refs : List ByteRef) :
    byteRefsFrom h need refs = borrowed h.reverse need ++ refs := by
  induction h generalizing need refs with
  | nil => rfl
  | cons e es ih =>
    rw [byteRefsFrom, List.reverse_cons]
    by_cases hneed : need = 0
    · rw [if_pos hneed, hneed, borrowed_zero]
      rfl
    · have hrest : need - min need e.bytes.length = need - e.bytes.length := by omega
      rw [if_neg hneed, ih, borrowed_append_singleton, List.append_assoc, hrest]
      rw [borrowed_singleton]
      split <;> rfl

theorem byteRefs_eq (h : List HistEntry) (k : Nat) : byteRefs h k = borrowed h k := by
  rw [byteRefs, byteRefsFrom_eq, List.reverse_reverse, List.append_nil]

/-- The triples name as many bytes as are needed, or all there are (R311). -/
theorem borrowed_sum (h : List HistEntry) (k : Nat) :
    ((borrowed h k).map fun r => r.len).sum = min k (histTotal h) := by
  induction h with
  | nil => exact (Nat.min_zero k).symm
  | cons e es ih =>
    have htotal : histTotal (e :: es) = e.bytes.length + histTotal es := rfl
    have hfirst : ((borrowed [e] (k - histTotal es)).map fun r => r.len).sum =
        min (k - histTotal es) e.bytes.length := by
      rw [borrowed_singleton]
      split
      next hnone => exact hnone.symm
      next => exact List.sum_singleton
    rw [borrowed_cons, List.map_append, List.sum_append, hfirst, ih, htotal]
    omega

/-! ## The history -/

/-- What is left of a history is its newest entries (R314). -/
theorem dropOldest_suffix (keep : Nat) (h : List HistEntry) : dropOldest keep h <:+ h := by
  fun_induction dropOldest keep h with
  | case1 => exact List.suffix_rfl
  | case2 => exact List.suffix_rfl
  | case3 e f es _ ih => exact ih.trans (List.suffix_cons e _)
  | case4 => exact List.suffix_rfl

/-- A history is never emptied (R314). -/
theorem dropOldest_ne_nil (keep : Nat) {h : List HistEntry} (hne : h ≠ []) : dropOldest keep h ≠ [] := by
  fun_induction dropOldest keep h with
  | case1 => exact hne
  | case2 => exact hne
  | case3 e f es _ ih => exact ih nofun
  | case4 => exact hne

/-- Entries are dropped only where the rest still holds the bytes to keep (R314). -/
theorem dropOldest_keeps (keep : Nat) (h : List HistEntry) :
    dropOldest keep h = h ∨ keep ≤ histTotal (dropOldest keep h) := by
  fun_induction dropOldest keep h with
  | case1 => exact .inl rfl
  | case2 => exact .inl rfl
  | case3 e f es hkeep ih =>
    rcases ih with ih | ih
    · rw [ih]; exact .inr hkeep
    · exact .inr ih
  | case4 => exact .inl rfl

/-! ## The commands -/

section
variable {s : State} (hs : Ready s) (hf : s.frmValid = true)
include hs hf

/-- RESOLVE with enough history (R310, R313). -/
theorem exec_resolve_ok (hk : s.frm.si.mainDataEnd.toNat ≤ histTotal s.hist) :
    exec .resolve s = .next { s with
      mdbuf := (histBytes s.hist).drop ((histBytes s.hist).length - s.frm.si.mainDataEnd.toNat) ++ s.frm.payload
      mdPos := 0
      mdRef := borrowed s.hist s.frm.si.mainDataEnd.toNat
      mdst := .const .none, tag := .const .none, mdValid := false
      outByteref := s.outByteref ++ [⟨s.frm.fidx, borrowed s.hist s.frm.si.mainDataEnd.toNat⟩]
      result0 := wordOfNat (s.frm.si.mainDataEnd.toNat + s.frm.payload.length)
      result1 := s.frm.si.mainDataEnd.setWidth 32 } := by
  rcases resolve_cases s with ⟨hlt, -⟩ | ⟨-, hres⟩
  · omega
  have hlen : ((histBytes s.hist).drop ((histBytes s.hist).length - s.frm.si.mainDataEnd.toNat) ++
      s.frm.payload).length = s.frm.si.mainDataEnd.toNat + s.frm.payload.length := by
    rw [List.length_append, List.length_drop, histBytes_length]
    omega
  rw [byteRefs_eq] at hres
  refine command_ok (main := false) (modeRefuses_of_ready hs 0x23) ?_
  rw [Act.bind_of_ok (needFrame_ok hf), Act.bind_of_ok hres, Act.modify_apply, clearStages_mdbuf, hlen]
  rfl

/-- RESOLVE with too little history (R312). -/
theorem exec_resolve_short (hk : histTotal s.hist < s.frm.si.mainDataEnd.toNat) :
    exec .resolve s = .next (record .reservoirInsufficient .reservoir 0x23 s) := by
  rcases resolve_cases s with ⟨-, hres⟩ | ⟨hle, -⟩
  · exact command_err (main := false) (modeRefuses_of_ready hs 0x23)
      ((Act.bind_of_ok (needFrame_ok hf)).trans (Act.bind_of_err hres))
  · omega

/-- HIST_PUSH (R315). -/
theorem exec_histPush : exec .histPush s = .next (setResults (wordOfNat (histTotal (histPush s).hist))
    (wordOfNat (histPush s).hist.length) (histPush s)) :=
  command_ok (main := false) (modeRefuses_of_ready hs 0x24) (Act.bind_of_ok (needFrame_ok hf))

end

end Sys2Proof.Machine

namespace Sys2Proof.Proofs

open Sys2Proof.Machine Sys2Proof.Safety

/-- Settles O22: the loop of ByteRefs names the bytes borrowed, and they add up to what is needed. -/
theorem resolve : Obligations.Resolve := by
  rintro s k c hs hf rfl rfl
  rw [← histBytes, histBytes_length]
  refine ⟨fun hk => ⟨by rw [borrowed_sum, Nat.min_eq_left hk], ?_⟩, fun hk => exec_resolve_short hs hf hk⟩
  rw [exec_resolve_ok hs hf hk, BitVec.ofNat_toNat, histBytes_length]
  rfl

/-- Settles O23: what is left after the oldest entries are dropped. -/
theorem histPush : Obligations.HistPush := by
  intro s hs hf
  exact ⟨_, dropOldest_suffix s.cfg.reservoirKeep _, dropOldest_ne_nil _ (List.append_ne_nil_of_right_ne_nil _ nofun),
    dropOldest_keeps _ _, fun e es h hes => histTotal_dropOldest_tail h hes, exec_histPush hs hf⟩

end Sys2Proof.Proofs

/-! # The Huffman family, part 1: codewords -/

namespace Sys2Proof.Machine

open Sys2Proof.Safety

/-! ## Codewords of a table -/

theorem codePrefix_iff {α β : Type} {a : Code α} {b : Code β} :
    codePrefix a b = true ↔ a.len ≤ b.len ∧ b.code / 2 ^ (b.len - a.len) = a.code := by
  simp [codePrefix]

/-- A table as R404 has it: no codeword is empty, and none is a prefix of another. -/
def CodesApart {α : Type} (t : List (Code α)) : Prop :=
  ∀ e ∈ t, 1 ≤ e.len ∧ ∀ f ∈ t, codePrefix e f = true → e = f

theorem codesApart_of_prefixFree {α : Type} {t : List (Code α)} (hfree : prefixFree t = true)
    (hlen : ∀ e ∈ t, 1 ≤ e.len) : CodesApart t := by
  have hpair : t.Pairwise fun a b => codePrefix a b = false ∧ codePrefix b a = false := by
    simpa [prefixFree] using hfree
  have hapart : ∀ ⦃e⦄, e ∈ t → ∀ ⦃f⦄, f ∈ t → codePrefix e f = true → e = f := by
    refine List.Pairwise.forall_of_forall_of_flip (fun _ _ _ => rfl) (hpair.imp fun h h' => ?_)
      (hpair.imp fun h h' => ?_)
    · rw [h.1] at h'; cases h'
    · rw [h.2] at h'; cases h'
  exact fun e he => ⟨hlen e he, fun f hf => hapart he hf⟩

/-- The table that stands in for a supplied one: 4 bits of x, then 4 bits of y (log 6). -/
theorem plainTable_codesApart {xmax : Nat} (h : xmax ≤ 15) : CodesApart (plainTable xmax) := by
  simp only [CodesApart, plainTable, List.mem_flatMap, List.mem_map, List.mem_range]
  rintro _ ⟨x, hx, y, hy, rfl⟩
  refine ⟨(by decide : 1 ≤ 8), ?_⟩
  rintro _ ⟨x', hx', y', hy', rfl⟩ hpre
  obtain ⟨-, hcode⟩ := codePrefix_iff.1 hpre
  simp only [cw, Nat.sub_self, Nat.pow_zero, Nat.div_one] at hcode
  obtain ⟨rfl, rfl⟩ : x = x' ∧ y = y' := by omega
  rfl

theorem openTable_codesApart (t : Nat) : CodesApart (openTable t) := by
  unfold openTable
  split
  next hok =>
    simp only [tableOk, Bool.and_eq_true, List.all_eq_true, decide_eq_true_eq] at hok
    obtain ⟨⟨hfree, hcodes⟩, -⟩ := hok
    refine codesApart_of_prefixFree hfree fun e he => ?_
    obtain ⟨⟨⟨⟨hlen, -⟩, -⟩, -⟩, -⟩ := hcodes e he
    exact hlen
  next => exact plainTable_codesApart (xmaxOf_le t)

theorem hcode_codesApart (t : Nat) : CodesApart (hcode t) := by
  unfold hcode
  split
  · exact codesApart_of_prefixFree (by decide) (by decide)
  · exact codesApart_of_prefixFree (by decide) (by decide)
  · exact codesApart_of_prefixFree (by decide) (by decide)
  · exact codesApart_of_prefixFree (by decide) (by decide)
  · exact codesApart_of_prefixFree (by decide) (by decide)
  · exact openTable_codesApart _

theorem quadTable_codesApart (sel : Bool) : CodesApart (quadTable sel) := by
  cases sel
  · exact codesApart_of_prefixFree (by decide) (by decide)
  · exact codesApart_of_prefixFree (by decide) (by decide)

theorem len_le_longest {α : Type} {t : List (Code α)} {e : Code α} (he : e ∈ t) : e.len ≤ longest t := by
  rw [longest, List.foldl_eq_foldr]
  exact List.le_max_of_le' 0 (List.mem_map_of_mem he) le_rfl

/-! ## The bits read so far -/

/-- The bits read first are the high bits of those read (R105). -/
theorem bitsAt_div (src : Src) (p : Nat) {m n : Nat} (h : m ≤ n) :
    bitsAt src p n / 2 ^ (n - m) = bitsAt src p m := by
  obtain ⟨k, rfl⟩ := Nat.exists_eq_add_of_le h
  rw [bitsAt_add, Nat.add_sub_cancel_left, mul_comm, Nat.mul_add_div (Nat.two_pow_pos k),
    Nat.div_eq_of_lt (bitsAt_lt src _ k), Nat.add_zero]

/-- The string of the `n` bits at `p`, `c` of R340. -/
def bitString (src : Src) (p n : Nat) : Code Unit := ⟨n, bitsAt src p n, ()⟩

/-- The bits at `p` begin the codeword `e` as far as `n` of them go. -/
def Begins {α : Type} (src : Src) (p n : Nat) (e : Code α) : Prop := codePrefix (bitString src p n) e = true

theorem begins_iff {α : Type} {src : Src} {p n : Nat} {e : Code α} :
    Begins src p n e ↔ n ≤ e.len ∧ e.code / 2 ^ (e.len - n) = bitsAt src p n := codePrefix_iff

theorem begins_len {α : Type} {src : Src} {p : Nat} {e : Code α} (h : bitsAt src p e.len = e.code) :
    Begins src p e.len e := begins_iff.2 ⟨le_rfl, by rw [Nat.sub_self, Nat.pow_zero, Nat.div_one, h]⟩

/-- Bits that begin a codeword begin it also as far as fewer of them go. -/
theorem Begins.mono {α : Type} {src : Src} {p m n : Nat} {e : Code α} (h : Begins src p n e) (hm : m ≤ n) :
    Begins src p m e := by
  obtain ⟨hn, hcode⟩ := begins_iff.1 h
  refine begins_iff.2 ⟨hm.trans hn, ?_⟩
  rw [← bitsAt_div src p hm, ← hcode, Nat.div_div_eq_div_mul, ← Nat.pow_add]
  congr 2
  omega

/-- No codeword of the table ends within the `n` bits at `p`. -/
def NoneWithin {α : Type} (src : Src) (t : List (Code α)) (p n : Nat) : Prop :=
  ∀ f ∈ t, f.len ≤ n → bitsAt src p f.len ≠ f.code

/-- Bits that begin a codeword, and are not all of it, hold no other one. -/
theorem noneWithin_of_begins {α : Type} {src : Src} {t : List (Code α)} {p n : Nat} {e : Code α} (ht : CodesApart t)
    (he : e ∈ t) (h : Begins src p n e) (hn : n < e.len) : NoneWithin src t p n := by
  intro f hf hfn hcode
  obtain ⟨hfe, hbits⟩ := begins_iff.1 (h.mono hfn)
  obtain rfl : f = e := (ht f hf).2 e he (codePrefix_iff.2 ⟨hfe, hbits.trans hcode⟩)
  omega

/-! ## Huff -/

/-- The codeword of the table that the `n` bits at `p` are, if any. -/
def codeAt {α : Type} (src : Src) (t : List (Code α)) (p n : Nat) : Option (Code α) :=
  t.find? fun e => decide (e.len = n ∧ e.code = bitsAt src p n)

section
variable {α : Type} {src : Src} {t : List (Code α)} {p n k : Nat} {e : Code α}

theorem codeAt_eq_none (h : ∀ f ∈ t, f.len = n → bitsAt src p n ≠ f.code) : codeAt src t p n = none :=
  List.find?_eq_none.2 fun f hf hfind => by
    obtain ⟨hlen, hcode⟩ := of_decide_eq_true hfind
    exact h f hf hlen hcode.symm

theorem codeAt_eq_some (ht : CodesApart t) (he : e ∈ t) (h : bitsAt src p e.len = e.code) :
    codeAt src t p e.len = some e := by
  cases hfind : codeAt src t p e.len with
  | none => exact absurd (decide_eq_true ⟨rfl, h.symm⟩) (List.find?_eq_none.1 hfind e he)
  | some f =>
    have hf := List.mem_of_find?_eq_some hfind
    obtain ⟨hlen, hcode⟩ : f.len = e.len ∧ f.code = bitsAt src p e.len := by simpa using List.find?_some hfind
    have hpre : codePrefix f e = true := codePrefix_iff.2 ⟨hlen.le, by simp [hlen, hcode, h]⟩
    rw [(ht f hf).2 e he hpre]

/-- A turn of Huff's loop at the end of the stream. -/
theorem huffFrom_short (h : src.len < p + n + 1) :
    huffFrom src t (k + 1) (bitString src p n) (p + n) = .err .unexpectedEnd (p + n) :=
  Act.bind_of_err (bitRead_short Nat.one_ne_zero h)

/-- A turn of Huff's loop that has its bit (R340). -/
theorem huffFrom_turn (hlen : p + n + 1 ≤ src.len) :
    huffFrom src t (k + 1) (bitString src p n) (p + n) =
      (codeAt src t p (n + 1)).elim
        (if t.any (codePrefix (bitString src p (n + 1))) then huffFrom src t k (bitString src p (n + 1))
          else Act.raise .badHuffmanCode)
        (fun e => Act.pure e.val) (p + n + 1) := by
  have hbits : 2 * bitsAt src p n + bitsAt src (p + n) 1 = bitsAt src p (n + 1) := by
    rw [bitsAt_add, Nat.pow_one, Nat.mul_comm]
  rw [huffFrom, Act.bind_of_ok (bitRead_ok (.inr hlen))]
  simp only [bitString, hbits, codeAt]
  cases t.find? fun e => decide (e.len = n + 1 ∧ e.code = bitsAt src p (n + 1)) <;> rfl

/-- The loop goes on as long as the bits read begin a codeword and hold none. -/
theorem huff_eq_huffFrom (he : e ∈ t) (hpre : Begins src p n e) (hnone : NoneWithin src t p n)
    (hlen : n = 0 ∨ p + n ≤ src.len) :
    huff src t p = huffFrom src t (longest t - n + 1) (bitString src p n) (p + n) := by
  induction n with
  | zero => rfl
  | succ n ih =>
    have hle := (begins_iff.1 hpre).1.trans (len_le_longest he)
    have hcode : codeAt src t p (n + 1) = none := codeAt_eq_none fun f hf hfn => hfn ▸ hnone f hf hfn.le
    have hany : t.any (codePrefix (bitString src p (n + 1))) = true := List.any_eq_true.2 ⟨e, he, hpre⟩
    have hfuel : longest t - n = longest t - (n + 1) + 1 := by omega
    rw [ih (hpre.mono n.le_succ) (fun f hf hfn => hnone f hf (hfn.trans n.le_succ)) (by omega),
      huffFrom_turn (by omega), hcode, Option.elim_none, if_pos hany, hfuel]
    rfl

/-- Huff of a codeword that is there whole (R340). -/
theorem huff_ok (ht : CodesApart t) (he : e ∈ t) (hbits : bitsAt src p e.len = e.code) (hlen : p + e.len ≤ src.len) :
    huff src t p = .ok e.val (p + e.len) := by
  obtain ⟨n, hn⟩ : ∃ n, e.len = n + 1 := Nat.exists_eq_add_of_le' (ht e he).1
  have hpre : Begins src p n e := (begins_len hbits).mono (by omega)
  have hcode := codeAt_eq_some ht he hbits
  rw [hn] at hcode hlen ⊢
  rw [huff_eq_huffFrom he hpre (noneWithin_of_begins ht he hpre (by omega)) (by omega), huffFrom_turn hlen, hcode]
  rfl

/-- Huff of a codeword that the end of the stream cuts after `n` bits (R340). -/
theorem huff_short (ht : CodesApart t) (he : e ∈ t) (hpre : Begins src p n e) (hn : n < e.len)
    (hlen : p + n = src.len) : huff src t p = .err .unexpectedEnd (p + n) := by
  rw [huff_eq_huffFrom he hpre (noneWithin_of_begins ht he hpre hn) (.inr hlen.le)]
  exact huffFrom_short (by omega)

/-- Huff of bits of which `n`, but not `n + 1`, begin a codeword (R340). -/
theorem huff_bad (he : e ∈ t) (hpre : Begins src p n e) (hnone : NoneWithin src t p n)
    (hbad : ∀ f ∈ t, ¬ Begins src p (n + 1) f) (hlen : p + n + 1 ≤ src.len) :
    huff src t p = .err .badHuffmanCode (p + n + 1) := by
  have hcode : codeAt src t p (n + 1) = none := codeAt_eq_none fun f hf hfn hbits =>
    hbad f hf (hfn ▸ begins_len (hfn ▸ hbits))
  have hany : t.any (codePrefix (bitString src p (n + 1))) = false := List.any_eq_false.2 hbad
  rw [huff_eq_huffFrom he hpre hnone (by omega), huffFrom_turn hlen, hcode, Option.elim_none, hany]
  rfl

end

end Sys2Proof.Machine

/-! # The Huffman family, part 2: pairs and quads -/

namespace Sys2Proof.Machine

open Sys2Proof.Safety

/-! ## Values -/

section
variable {src : Src} {lb m p q : Nat} {v : Int}

/-- A magnitude without an escape has only a sign, and that only when it is not 0 (R343). -/
theorem signedAt_zero (src : Src) (m p : Nat) : signedAt src 0 m p =
    if m = 0 then (0, p) else (if bitAt src p = 1 then -(m : Int) else (m : Int), p + 1) := rfl

/-- An escape adds its bits to 15, and the sign comes after them (R343). -/
theorem signedAt_escape (h : 0 < lb ∧ m = 15) :
    signedAt src lb m p = signedAt src 0 (15 + bitsAt src p lb) (p + lb) := by
  simp only [signedAt, if_pos h]
  rfl

/-- Without an escape its width does not matter (R343). -/
theorem signedAt_plain (h : ¬ (0 < lb ∧ m = 15)) : signedAt src lb m p = signedAt src 0 m p := by
  simp only [signedAt, if_neg h]
  rfl

theorem le_of_signedAt_zero (h : (v, q) = signedAt src 0 m p) : p ≤ q := by
  rw [signedAt_zero] at h
  split at h <;> cases h <;> omega

theorem le_of_signedAt (h : (v, q) = signedAt src lb m p) : p ≤ q := by
  by_cases hesc : 0 < lb ∧ m = 15
  · have := le_of_signedAt_zero (h.trans (signedAt_escape hesc))
    omega
  · exact le_of_signedAt_zero (h.trans (signedAt_plain hesc))

/-- The sign of a magnitude that is there (R343). -/
theorem readSign_ok (h : (v, q) = signedAt src 0 m p) (hq : q ≤ src.len) : readSign src m p = .ok v q := by
  rw [signedAt_zero] at h
  unfold readSign
  by_cases hm : m = 0
  · rw [if_pos hm] at h
    rw [if_neg (not_not.2 hm)]
    cases h
    rfl
  · rw [if_neg hm] at h
    cases h
    rw [if_pos hm, Act.bind_of_ok (bitRead_ok (.inr hq)), bitsAt_succ]
    simp [Act.pure_apply]

/-- The escape of a magnitude that is there with its sign: what is left to read is the sign (R343). -/
theorem readEscape_ok (h : (v, q) = signedAt src lb m p) (hq : q ≤ src.len) :
    ∃ a r, readEscape src lb m p = .ok a r ∧ (v, q) = signedAt src 0 a r := by
  unfold readEscape
  by_cases hesc : 0 < lb ∧ m = 15
  · rw [signedAt_escape hesc] at h
    have hle := le_of_signedAt_zero h
    rw [if_pos hesc, Act.bind_of_ok (bitRead_ok (.inr (hle.trans hq)))]
    exact ⟨_, _, rfl, h⟩
  · rw [signedAt_plain hesc] at h
    rw [if_neg hesc]
    exact ⟨_, _, rfl, h⟩

/-- A magnitude's escape and sign, then the rest. -/
theorem readSigned_bind {β : Type} (h : (v, q) = signedAt src lb m p) (hq : q ≤ src.len) (k : Int → Rd β) :
    ((readEscape src lb m).bind fun a => (readSign src a).bind k) p = k v q := by
  obtain ⟨a, r, hesc, hsign⟩ := readEscape_ok h hq
  rw [Act.bind_of_ok hesc, Act.bind_of_ok (readSign_ok hsign hq)]

end

/-! ## Pairs -/

section
variable {src : Src} {t : BitVec 5}

/-- A table id that has codewords: its pairs are coded with them (R343). -/
theorem huffPair_eq (h0 : t ≠ 0) (h4 : t ≠ 4) (h14 : t ≠ 14) :
    huffPair src t = pairWith src (hcode t.toNat) (linbitsOf t.toNat) := by
  rw [huffPair, if_neg (not_or.2 ⟨h4, h14⟩), if_neg h0]

theorem huffPair_zero (p : Nat) : huffPair src 0 p = .ok (0, 0) p := rfl

theorem huffPair_badTable (h : t = 4 ∨ t = 14) (p : Nat) : huffPair src t p = .err .badRegionTable p := by
  rw [huffPair, if_pos h]
  rfl

/-- A pair that is there whole (R343). -/
theorem pairWith_ok {tab : PairTable} {lb p q1 q2 : Nat} {e : Code (Nat × Nat)} {x y : Int} (ht : CodesApart tab)
    (he : e ∈ tab) (hbits : bitsAt src p e.len = e.code) (hx : (x, q1) = signedAt src lb e.val.1 (p + e.len))
    (hy : (y, q2) = signedAt src lb e.val.2 q1) (hq : q2 ≤ src.len) : pairWith src tab lb p = .ok (x, y) q2 := by
  have hq1 := (le_of_signedAt hy).trans hq
  rw [pairWith, Act.bind_of_ok (huff_ok ht he hbits ((le_of_signedAt hx).trans hq1))]
  refine (readSigned_bind hx hq1 _).trans ?_
  exact readSigned_bind hy hq _

end

/-! ## Quads -/

/-- A quad that is there whole (R345). -/
theorem huffQuad_ok {src : Src} {sel : Bool} {p q1 q2 q3 q4 : Nat} {e : Code Nat} {v w x y : Int}
    (he : e ∈ quadTable sel) (hbits : bitsAt src p e.len = e.code)
    (hv : (v, q1) = signedAt src 0 (e.val / 8 % 2) (p + e.len)) (hw : (w, q2) = signedAt src 0 (e.val / 4 % 2) q1)
    (hx : (x, q3) = signedAt src 0 (e.val / 2 % 2) q2) (hy : (y, q4) = signedAt src 0 (e.val % 2) q3)
    (hq : q4 ≤ src.len) : huffQuad src sel p = .ok [v, w, x, y] q4 := by
  have hq3 := (le_of_signedAt hy).trans hq
  have hq2 := (le_of_signedAt hx).trans hq3
  have hq1 := (le_of_signedAt hw).trans hq2
  have hlen := (le_of_signedAt hv).trans hq1
  rw [huffQuad, Act.bind_of_ok (huff_ok (quadTable_codesApart sel) he hbits hlen)]
  simp only [Act.forEach, Act.bind, readSign_ok hv hq1, readSign_ok hw hq2, readSign_ok hx hq3, readSign_ok hy hq,
    Act.pure_apply]

theorem quadWord_eq (v w x y : Int) : quadWord [v, w, x, y] =
    BitVec.ofInt 8 y ++ BitVec.ofInt 8 x ++ BitVec.ofInt 8 w ++ BitVec.ofInt 8 v := rfl

/-! ## The commands -/

section
variable {s : State} (hs : Ready s)
include hs

/-- HUFF_PAIR of a pair that decodes (R344). -/
theorem exec_huffPair_ok {x y : Int} {q : Nat} (h : huffPair (src s .md) (argTable s) s.mdPos = .ok (x, y) q) :
    exec .huffPair s = .next { s with mdPos := q, result0 := wordOfInt x, result1 := wordOfInt y } :=
  command_ok (main := true) (modeRefuses_of_ready hs 0x30) (Act.bind_of_ok
    (onReader_ok (r := .md) (f := fun src => huffPair src (argTable s)) h))

/-- HUFF_PAIR of a pair that does not decode (R344, R620). -/
theorem exec_huffPair_err {e : Err} {q : Nat} (h : huffPair (src s .md) (argTable s) s.mdPos = .err e q) :
    exec .huffPair s = .next (record e (e.cls true) 0x30 { s with mdPos := q }) :=
  command_err (modeRefuses_of_ready hs 0x30) (Act.bind_of_err
    (onReader_err (r := .md) (f := fun src => huffPair src (argTable s)) h))

/-- HUFF_QUAD of a quad that decodes (R346). -/
theorem exec_huffQuad_ok {l : List Int} {q : Nat} (h : huffQuad (src s .md) (argBit0 s) s.mdPos = .ok l q) :
    exec .huffQuad s = .next { s with mdPos := q, result0 := quadWord l, result1 := wordOfNat q } :=
  command_ok (main := true) (modeRefuses_of_ready hs 0x31) (Act.bind_of_ok
    (onReader_ok (r := .md) (f := fun src => huffQuad src (argBit0 s)) h))

/-- HUFF_QUAD of a quad that does not decode (R346, R620). -/
theorem exec_huffQuad_err {e : Err} {q : Nat} (h : huffQuad (src s .md) (argBit0 s) s.mdPos = .err e q) :
    exec .huffQuad s = .next (record e (e.cls true) 0x31 { s with mdPos := q }) :=
  command_err (modeRefuses_of_ready hs 0x31) (Act.bind_of_err
    (onReader_err (r := .md) (f := fun src => huffQuad src (argBit0 s)) h))

/-- HUFF_PAIR of a codeword that the end of MDBUF cuts after `n` bits (R340). -/
theorem exec_huffPair_short {n : Nat} {e : Code (Nat × Nat)} (h0 : argTable s ≠ 0) (h4 : argTable s ≠ 4)
    (h14 : argTable s ≠ 14) (he : e ∈ hcode (argTable s).toNat) (hpre : Begins (src s .md) s.mdPos n e) (hn : n < e.len)
    (hend : s.mdPos + n = 8 * s.mdbuf.length) :
    exec .huffPair s = .next (record .unexpectedEnd .spectral 0x30 { s with mdPos := 8 * s.mdbuf.length }) := by
  have hhuff := huff_short (hcode_codesApart _) he hpre hn hend
  refine exec_huffPair_err hs ?_
  rw [huffPair_eq h0 h4 h14, ← hend]
  exact Act.bind_of_err hhuff

/-- HUFF_QUAD of a codeword that the end of MDBUF cuts after `n` bits (R340). -/
theorem exec_huffQuad_short {n : Nat} {e : Code Nat} (he : e ∈ quadTable (argBit0 s))
    (hpre : Begins (src s .md) s.mdPos n e) (hn : n < e.len) (hend : s.mdPos + n = 8 * s.mdbuf.length) :
    exec .huffQuad s = .next (record .unexpectedEnd .spectral 0x31 { s with mdPos := 8 * s.mdbuf.length }) := by
  have hhuff := huff_short (quadTable_codesApart _) he hpre hn hend
  refine exec_huffQuad_err hs ?_
  rw [← hend]
  exact Act.bind_of_err hhuff

end

end Sys2Proof.Machine

namespace Sys2Proof.Proofs

open Sys2Proof.Machine Sys2Proof.Safety

/-- Settles O25: a codeword there whole is found, for no other one of its table is there (R404). -/
theorem huffPair : Obligations.HuffPair := by
  rintro s _ hs rfl
  refine ⟨fun e he x y q1 q2 h0 h4 h14 hbits hx hy hq => exec_huffPair_ok hs ?_, fun h => ?_, fun h => ?_⟩
  · have heq := huffPair_eq (src := src s .md) (t := argTable s) (ne_of_apply_ne BitVec.toNat h0)
      (ne_of_apply_ne BitVec.toNat h4) (ne_of_apply_ne BitVec.toNat h14)
    rw [heq]
    exact pairWith_ok (hcode_codesApart _) he hbits hx hy hq
  · have ht : argTable s = 0 := BitVec.eq_of_toNat_eq h
    exact exec_huffPair_ok hs (by rw [ht, huffPair_zero])
  · have ht : argTable s = 4 ∨ argTable s = 14 := h.imp BitVec.eq_of_toNat_eq BitVec.eq_of_toNat_eq
    exact exec_huffPair_err hs (huffPair_badTable ht _)

/-- Settles O26: likewise for the count1 tables, with four signs. -/
theorem huffQuad : Obligations.HuffQuad := by
  intro s e v w x y q1 q2 q3 q4 hs he hbits hv hw hx hy hq
  have hquad : Machine.huffQuad (src s .md) (argBit0 s) s.mdPos = .ok [v, w, x, y] q4 :=
    huffQuad_ok he hbits hv hw hx hy hq
  rw [exec_huffQuad_ok hs hquad, quadWord_eq]
  rfl

/-- Settles O27: the bits read so far begin a codeword and hold none, so the read goes on to its end, or to the bit that
no codeword has there. -/
theorem huffmanErrors : Obligations.HuffmanErrors := by
  refine ⟨?_, ?_, ?_⟩
  · rintro s _ r e hs rfl h0 h4 h14 he hend hr hbits
    exact exec_huffPair_short hs (ne_of_apply_ne BitVec.toNat h0) (ne_of_apply_ne BitVec.toNat h4)
      (ne_of_apply_ne BitVec.toNat h14) he (begins_iff.2 ⟨hr.le, hbits.symm⟩) hr hend
  · intro s r e hs he hend hr hbits
    exact exec_huffQuad_short hs he (begins_iff.2 ⟨hr.le, hbits.symm⟩) hr hend
  · intro src tab e p n he hn hlen hbits hnone hbad
    refine huff_bad he (begins_iff.2 ⟨hn.le, hbits.symm⟩) hnone (fun f hf hpre => ?_) hlen
    obtain ⟨hfn, hcode⟩ := begins_iff.1 hpre
    exact hbad f hf hfn hcode.symm

end Sys2Proof.Proofs

/-! # The Huffman family, part 3: one granule and channel -/

namespace Sys2Proof.Machine

open Sys2Proof.Safety

/-! ## Parts and regions -/

/-- A part starts after the bits of the parts before it (R429). -/
theorem p23start_eq {f : Frame} {g : Gran} {c : Chan} (hc : c = .c1 → f.nch ≠ 1) :
    p23start f g c = partStart f g c := by
  unfold p23start partStart
  by_cases hn : f.nch = 1
  · cases c with
    | c0 => cases g <;> simp [parts, chans, hn]
    | c1 => exact absurd hn (hc rfl)
  · cases g <;> cases c <;> simp [parts, chans, hn, Nat.add_assoc]

/-- Each pair has the table of its region (R347-R349). -/
theorem regionTable_eq (bands : Config.Bands) (gc : GranInfo) (k : Nat) :
    regionTable gc (regionBounds bands gc).1 (regionBounds bands gc).2 (2 * k) = pairTable bands gc k := by
  unfold regionTable regionBounds pairTable
  cases gc.split <;> simp only [Bool.false_eq_true, if_true, if_false] <;> split_ifs <;> rfl

/-- A channel the frame has passes the check of R146. -/
theorem chanLegal_of_ne {nch : Nat} {c : Chan} (hc : c = .c1 → nch ≠ 1) : chanLegal nch c = true := by
  cases c with
  | c0 => rfl
  | c1 => exact decide_eq_true (hc rfl)

/-! ## The big values -/

/-- The symbols of `n` pairs from pair `p` on: pair `k` has the values `xs k` and lies between `ps k` and
`ps (k + 1)`. -/
def pairSyms (ps : Nat → Nat) (xs : Nat → Int × Int) (p n : Nat) : List DiagSym :=
  (List.range' p n).map fun k => ⟨.pair, ps k, ps (k + 1) - ps k, [(xs k).1, (xs k).2]⟩

/-- The big-value loop over pairs that decode, each with the table of its region (R349, R351). -/
theorem bigValues_ok {src : Src} {bands : Config.Bands} {gc : GranInfo} {ps : Nat → Nat} {xs : Nat → Int × Int}
    {n p : Nat}
    (h : ∀ k, p ≤ k → k < p + n → huffPair src (pairTable bands gc k) (ps k) = .ok (xs k) (ps (k + 1))) :
    bigValues src gc (regionBounds bands gc).1 (regionBounds bands gc).2 n p (ps p) =
      .ok (pairSyms ps xs p n) (ps (p + n)) := by
  induction n generalizing p with
  | zero => rfl
  | succ n ih =>
    have hrest := ih (p := p + 1) fun k hk hkn => h k (by omega) (by omega)
    rw [Nat.add_right_comm] at hrest
    have hpair := h p le_rfl (by omega)
    rw [← regionTable_eq] at hpair
    simp only [bigValues, Act.bind, Act.get, hpair, hrest]
    rfl

/-! ## The quads -/

/-- Huff reads a bit at least (R340). -/
theorem huffFrom_moves {α : Type} (src : Src) (t : List (Code α)) (n : Nat) (c : Code Unit) (p : Nat) :
    (huffFrom src t n c).wp (fun _ q => p < q) (fun _ _ => True) p := by
  induction n generalizing c p with
  | zero => trivial
  | succ n ih =>
    refine Act.wp_bind.2 ?_
    rcases bitRead_cases src 1 p with ⟨-, hread⟩ | ⟨-, -, hread⟩
    · refine (Act.wp_of_ok hread).2 ?_
      dsimp only
      split
      next => exact Nat.lt_succ_self p
      next =>
        split
        next => exact Act.wp_mono (ih _ (p + 1)) (fun _ _ => (Nat.lt_succ_self p).trans) fun _ _ => id
        next => trivial
    · exact (Act.wp_of_err hread).2 trivial

theorem readSign_pos_le {src : Src} {x p q : Nat} {v : Int} (h : readSign src x p = .ok v q) : p ≤ q := by
  unfold readSign at h
  split at h
  next =>
    obtain ⟨b, r, hread, hrest⟩ := Act.bind_eq_ok.1 h
    obtain ⟨-, -, rfl⟩ := bitRead_eq_ok.1 hread
    cases hrest
    exact Nat.le_succ p
  next => cases h; exact le_rfl

/-- Items read in a row, none of which moves back. -/
theorem forEach_pos_le {α ι : Type} {f : ι → Rd α} (hf : ∀ i p a q, f i p = .ok a q → p ≤ q) {is : List ι} {p q : Nat}
    {l : List α} (h : Act.forEach f is p = .ok l q) : p ≤ q ∧ l.length = is.length := by
  induction is generalizing p l with
  | nil => cases h; exact ⟨le_rfl, rfl⟩
  | cons i is ih =>
    obtain ⟨a, r, ha, hrest⟩ := Act.bind_eq_ok.1 h
    obtain ⟨as, r', has, hpure⟩ := Act.bind_eq_ok.1 hrest
    cases hpure
    obtain ⟨hle, hlen⟩ := ih has
    exact ⟨(hf i p a r ha).trans hle, congrArg Nat.succ hlen⟩

/-- A quad has a bit at least, and four values (R345). -/
theorem huffQuad_takes {src : Src} {sel : Bool} {p q : Nat} {l : List Int} (h : huffQuad src sel p = .ok l q) :
    p < q ∧ l.length = 4 := by
  obtain ⟨v, r, hhuff, hsigns⟩ := Act.bind_eq_ok.1 h
  obtain ⟨hle, hlen⟩ := forEach_pos_le (fun _ _ _ _ => readSign_pos_le) hsigns
  exact ⟨((Act.wp_of_ok hhuff).1 (huffFrom_moves src _ _ _ p)).trans_le hle, hlen⟩

/-- The symbols of `n` quads kept, from quad `j` on: quad `k` has the values `vs k` and lies between `qs k` and
`qs (k + 1)`. -/
def quadSyms (qs : Nat → Nat) (vs : Nat → List Int) (j n : Nat) : List DiagSym :=
  (List.range' j n).map fun k => ⟨.quad, qs k, qs (k + 1) - qs k, vs k⟩

/-- How the count1 region ends at position `p`, and where reading stops: at the part's last bit, with a quad that ends
past it, or with one that meets the end of the stream (R353-R355). -/
def QuadsEnd (src : Src) (sel : Bool) (lim p stop : Nat) : Prop :=
  p = lim ∧ stop = lim ∨ p < lim ∧ (∃ v, huffQuad src sel p = .ok v stop ∧ lim < stop) ∨
    p < lim ∧ huffQuad src sel p = .err .unexpectedEnd stop

section
variable {src : Src} {sel : Bool} {lim p q stop fuel : Nat}

/-- A turn of the count1 loop that keeps its quad (R353). -/
theorem count1Quads_kept {v : List Int} (hp : p < lim) (h : huffQuad src sel p = .ok v q) (hq : q ≤ lim) :
    count1Quads src sel lim (fuel + 1) p =
      ((count1Quads src sel lim fuel).bind fun rest => Act.pure (⟨.quad, p, q - p, v⟩ :: rest)) q := by
  simp only [count1Quads, if_pos hp, h, if_neg (Nat.not_lt.2 hq)]

/-- The turn that ends the count1 loop: a quad it reads is discarded (R354, R355). -/
theorem count1Quads_end (h : QuadsEnd src sel lim p stop) (hfuel : lim - p ≤ fuel) :
    ∃ ds : List DiagSym, (∀ d ∈ ds, d.kind = .quadDiscarded) ∧ count1Quads src sel lim fuel p = .ok ds stop := by
  rcases h with ⟨rfl, rfl⟩ | ⟨hp, v, hquad, hstop⟩ | ⟨hp, hquad⟩
  · refine ⟨[], nofun, ?_⟩
    cases fuel with
    | zero => rfl
    | succ fuel => exact if_neg (lt_irrefl _)
  all_goals obtain ⟨fuel, rfl⟩ : ∃ n, fuel = n + 1 := Nat.exists_eq_add_of_le' (by omega)
  · refine ⟨[⟨.quadDiscarded, p, stop - p, v⟩], by simp, ?_⟩
    simp only [count1Quads, if_pos hp, hquad, if_pos hstop]
  · refine ⟨[⟨.quadDiscarded, p, stop - p, []⟩], by simp, ?_⟩
    simp only [count1Quads, if_pos hp, hquad]

/-- The count1 loop over quads that are kept, up to its end (R353-R355). -/
theorem count1Quads_ok {qs : Nat → Nat} {vs : Nat → List Int} {m j : Nat}
    (h : ∀ k, j ≤ k → k < j + m →
      qs k < lim ∧ huffQuad src sel (qs k) = .ok (vs k) (qs (k + 1)) ∧ qs (k + 1) ≤ lim)
    (hend : QuadsEnd src sel lim (qs (j + m)) stop) (hfuel : lim - qs j ≤ fuel) :
    ∃ ds : List DiagSym, (∀ d ∈ ds, d.kind = .quadDiscarded) ∧
      count1Quads src sel lim fuel (qs j) = .ok (quadSyms qs vs j m ++ ds) stop := by
  induction m generalizing j fuel with
  | zero => exact count1Quads_end hend hfuel
  | succ m ih =>
    obtain ⟨hlt, hquad, hle⟩ := h j le_rfl (by omega)
    have hbit := (huffQuad_takes hquad).1
    obtain ⟨fuel, rfl⟩ : ∃ n, fuel = n + 1 := Nat.exists_eq_add_of_le' (by omega)
    rw [← Nat.add_assoc, Nat.add_right_comm] at hend
    obtain ⟨ds, hds, hrest⟩ := ih (fuel := fuel) (fun k hk hkm => h k (by omega) (by omega)) hend (by omega)
    exact ⟨ds, hds, by rw [count1Quads_kept hlt hquad hle, Act.bind_of_ok hrest]; rfl⟩

end

/-! ## The spectrum -/

theorem fit576_length (v : List Int) : (fit576 v).length = 576 := by
  rw [fit576, List.length_take, List.length_append, List.length_replicate]
  omega

theorem fit576_getD (v : List Int) {i : Nat} (hi : i < 576) : (fit576 v).getD i 0 = v.getD i 0 := by
  rw [List.getD_eq_getElem?_getD, List.getD_eq_getElem?_getD, fit576, List.getElem?_take_of_lt hi]
  by_cases hv : i < v.length
  · rw [List.getElem?_append_left hv]
  · rw [List.getElem?_append_right (Nat.not_lt.1 hv), List.getElem?_replicate, List.getElem?_eq_none (Nat.not_lt.1 hv)]
    split <;> rfl

/-- The quads kept are those before the one discarded (R353). -/
theorem kept_append {pairs ds : List DiagSym} {e : Nat} {qs : Nat → Nat} {vs : Nat → List Int} {m : Nat}
    (hds : ∀ d ∈ ds, d.kind = .quadDiscarded) :
    Spectrum.kept ⟨pairs, e, quadSyms qs vs 0 m ++ ds⟩ = quadSyms qs vs 0 m := by
  have hquads : (quadSyms qs vs 0 m).filter (fun q => decide (q.kind = .quad)) = quadSyms qs vs 0 m := by
    simp [quadSyms]
  have hnone : ds.filter (fun q => decide (q.kind = .quad)) = [] := by
    refine List.filter_eq_nil_iff.2 fun d hd => ?_
    simp [hds d hd]
  rw [Spectrum.kept, List.filter_append, hquads, hnone, List.append_nil]

/-- What a granule's pairs and quads decode to, in order (R356). -/
def linesOf (xs : Nat → Int × Int) (vs : Nat → List Int) (n m : Nat) : List Int :=
  ((List.range n).flatMap fun k => [(xs k).1, (xs k).2]) ++ (List.range m).flatMap vs

theorem linesOf_length {xs : Nat → Int × Int} {vs : Nat → List Int} {n m : Nat} (h : ∀ k < m, (vs k).length = 4) :
    (linesOf xs vs n m).length = 2 * n + 4 * m := by
  have hquads : ((List.range m).map fun k => (vs k).length) = (List.range m).map fun _ => 4 :=
    List.map_congr_left fun k hk => h k (List.mem_range.1 hk)
  rw [linesOf, List.length_append, List.length_flatMap, List.length_flatMap, hquads]
  simp [mul_comm]

theorem pairSyms_append_quadSyms_vals (ps qs : Nat → Nat) (xs : Nat → Int × Int) (vs : Nat → List Int) (n m : Nat) :
    (pairSyms ps xs 0 n ++ quadSyms qs vs 0 m).flatMap (fun q => q.vals) = linesOf xs vs n m := by
  simp [pairSyms, quadSyms, linesOf, List.flatMap_map, List.range_eq_range']

section
variable {src : Src} {bands : Config.Bands} {gc : GranInfo} {p3 lim p : Nat} {ps : Nat → Nat} {xs : Nat → Int × Int}
  (h0 : ps 0 = min p3 src.len)
  (hpairs : ∀ k < gc.bigValues.toNat, huffPair src (pairTable bands gc k) (ps k) = .ok (xs k) (ps (k + 1)))
include h0 hpairs

/-- The big values of a part, from the seek to its part-3 start on (R360). -/
theorem seek_bigValues :
    ((seekTo src p3).bind fun _ =>
      bigValues src gc (regionBounds bands gc).1 (regionBounds bands gc).2 gc.bigValues.toNat 0) p =
      .ok (pairSyms ps xs 0 gc.bigValues.toNat) (ps gc.bigValues.toNat) := by
  have h := bigValues_ok (n := gc.bigValues.toNat) (p := 0) fun k _ hk => hpairs k (by omega)
  rwa [h0, Nat.zero_add] at h

/-- A spectrum whose pairs end past the part (R352). -/
theorem readSpectrum_overrun (hover : lim < ps gc.bigValues.toNat) :
    readSpectrum src gc (regionBounds bands gc).1 (regionBounds bands gc).2 p3 lim p =
      .err .part3Overrun (ps gc.bigValues.toNat) := by
  rw [readSpectrum, ← Act.bind_assoc, Act.bind_of_ok (seek_bigValues h0 hpairs)]
  exact Act.bind_of_err (Act.need_of_false (decide_eq_false (Nat.not_le.2 hover)))

/-- A spectrum whose pairs end within the part: its values are those of its pairs and of the quads kept (R353-R360). -/
theorem readSpectrum_ok {m stop : Nat} {qs : Nat → Nat} {vs : Nat → List Int} (hle : ps gc.bigValues.toNat ≤ lim)
    (hq0 : qs 0 = ps gc.bigValues.toNat)
    (hquads : ∀ k < m,
      qs k < lim ∧ huffQuad src gc.count1Table (qs k) = .ok (vs k) (qs (k + 1)) ∧ qs (k + 1) ≤ lim)
    (hend : QuadsEnd src gc.count1Table lim (qs m) stop) :
    ∃ x : Spectrum,
      readSpectrum src gc (regionBounds bands gc).1 (regionBounds bands gc).2 p3 lim p = .ok x stop ∧
      x.vals = linesOf xs vs gc.bigValues.toNat m ∧ x.kept.length = m := by
  obtain ⟨ds, hds, hcount⟩ := count1Quads_ok (j := 0) (fun k _ hk => hquads k (by omega))
    ((Nat.zero_add m).symm ▸ hend) le_rfl
  rw [hq0] at hcount
  have hneed : Act.need (fun p => decide (p ≤ lim)) .part3Overrun (ps gc.bigValues.toNat) =
      .ok () (ps gc.bigValues.toNat) := Act.need_of_true (decide_eq_true hle)
  refine ⟨⟨pairSyms ps xs 0 gc.bigValues.toNat, ps gc.bigValues.toNat, quadSyms qs vs 0 m ++ ds⟩, ?_, ?_, ?_⟩
  · rw [readSpectrum, ← Act.bind_assoc, Act.bind_of_ok (seek_bigValues h0 hpairs)]
    refine (Act.bind_of_ok hneed).trans ?_
    exact (Act.bind_of_ok rfl).trans (Act.bind_of_ok hcount)
  · rw [Spectrum.vals, kept_append hds, pairSyms_append_quadSyms_vals]
  · rw [kept_append hds, quadSyms, List.length_map, List.length_range']

end

/-! ## The command -/

/-- The reads of a part's spectrum (R360). -/
def partSpectrum (s : State) (g : Gran) (c : Chan) (src : Src) : Rd Spectrum :=
  readSpectrum src (granInfo s.frm.si g c)
    (regionBounds (frameBands s) (granInfo s.frm.si g c)).1 (regionBounds (frameBands s) (granInfo s.frm.si g c)).2
    (p23start s.frm g c + (s.md.get g c).p2len) (p23start s.frm g c + (granInfo s.frm.si g c).part23Length.toNat)

/-- The element a part's spectrum gives OUT_DIAG (R359). -/
def diagOf (s : State) (g : Gran) (c : Chan) (x : Spectrum) : OutDiag :=
  ⟨s.frm.fidx, g, c, (regionBounds (frameBands s) (granInfo s.frm.si g c)).1,
    (regionBounds (frameBands s) (granInfo s.frm.si g c)).2, x.bigEnd, x.pairs ++ x.quads⟩

theorem huffGranule_ok {s : State} {g : Gran} {c : Chan} {x : Spectrum} {q : Nat}
    (h : partSpectrum s g c (src s .md) s.mdPos = .ok x q) :
    huffGranule g c s = .ok (diagOf s g c x) { s with
      mdPos := q
      md := s.md.set g c { s.md.get g c with
        is := fit576 x.vals, zpb := min 576 x.vals.length, count1 := x.kept.length } } :=
  Act.bind_of_ok (onReader_ok (r := .md) (f := partSpectrum s g c) h)

theorem huffGranule_err {s : State} {g : Gran} {c : Chan} {e : Err} {q : Nat}
    (h : partSpectrum s g c (src s .md) s.mdPos = .err e q) : huffGranule g c s = .err e { s with mdPos := q } :=
  Act.bind_of_err (onReader_err (r := .md) (f := partSpectrum s g c) h)

theorem emitDiag_append (ds : List OutDiag) (s : State) :
    emitDiag ds s = { s with outDiag := s.outDiag ++ if s.cfg.emitIntermediates then ds else [] } := by
  unfold emitDiag
  cases s.cfg.emitIntermediates <;> simp

/-- The preconditions of HUFF_GRANULE hold (R361, R625): what is left of its body is the rest. -/
theorem granule_preconditions {α : Type} {s : State} {g : Gran} {c : Chan} (hs : PartReady s c) (hbuf : s.mdbuf ≠ [])
    (hst : s.mdst.get g c ≠ .none) (body : Cmd α) :
    ((needPart c).bind fun _ =>
      (needStage fun s => !s.mdbuf.isEmpty && decide (s.mdst.get g c ≠ .none)).bind fun _ => body) s = body s := by
  have hstage : needStage (fun s => !s.mdbuf.isEmpty && decide (s.mdst.get g c ≠ .none)) s = .ok () s :=
    Act.need_of_true (by simp [hbuf, hst])
  obtain ⟨-, hframe, hchan⟩ := hs
  rw [Act.bind_of_ok (needPart_ok hframe (chanLegal_of_ne hchan)), Act.bind_of_ok hstage]

section
variable {s : State} {g : Gran} {c : Chan} (hs : PartReady s c) (hbuf : s.mdbuf ≠ []) (hst : s.mdst.get g c ≠ .none)
include hs hbuf hst

/-- HUFF_GRANULE of a part whose spectrum decodes to the values `v`, `m` quads among them (R361). -/
theorem exec_huffGranule_ok {x : Spectrum} {q m : Nat} {v : List Int}
    (h : partSpectrum s g c (src s .md) s.mdPos = .ok x q) (hv : x.vals = v) (hm : x.kept.length = m) :
    exec (.huffGranule g c) s = .next { s with
      mdPos := q
      md := s.md.set g c { s.md.get g c with is := fit576 v, zpb := min 576 v.length, count1 := m }
      mdst := s.mdst.set g c .huf
      outDiag := s.outDiag ++ if s.cfg.emitIntermediates then [diagOf s g c x] else []
      result0 := wordOfNat (min 576 v.length)
      result1 := wordOfNat m } := by
  subst hv hm
  refine command_ok (main := true) (modeRefuses_of_ready hs.1 0x32) ?_
  rw [granule_preconditions hs hbuf hst, Act.bind_of_ok (huffGranule_ok h), Act.modify_apply]
  simp only [emitDiag_append, setMdst, setResults, PerPart.get_set_self]

/-- HUFF_GRANULE of a part whose spectrum does not decode (R361, R620). -/
theorem exec_huffGranule_err {e : Err} {q : Nat} (h : partSpectrum s g c (src s .md) s.mdPos = .err e q) :
    exec (.huffGranule g c) s = .next (record e (e.cls true) 0x32 { s with mdPos := q }) := by
  refine command_err (modeRefuses_of_ready hs.1 0x32) ?_
  rw [granule_preconditions hs hbuf hst, Act.bind_of_err (huffGranule_err h)]

end

end Sys2Proof.Machine

namespace Sys2Proof.Proofs

open Sys2Proof.Machine Sys2Proof.Safety

/-- Settles O28: the loops take the pairs and quads given, up to the end given. -/
theorem huffGranule : Obligations.HuffGranule := by
  rintro s g c _ _ m stop ps qs xs vs hs hbuf hst rfl rfl h0 hpairs hle hq0 hquads hend
  have ⟨_, _, hchan⟩ := hs
  have hlen := linesOf_length (xs := xs) (n := (granInfo s.frm.si g c).bigValues.toNat) fun k hk =>
    (huffQuad_takes (hquads k hk).2.1).2
  obtain ⟨x, hread, hvals, hkept⟩ := readSpectrum_ok (p := s.mdPos) h0 hpairs hle hq0 hquads hend
  rw [← p23start_eq hchan] at hread
  refine ⟨_, if s.cfg.emitIntermediates then [diagOf s g c x] else [], fit576_length _, fun i => fit576_getD _, ?_, ?_⟩
  · split <;> rfl
  · rw [← hlen]
    exact exec_huffGranule_ok hs hbuf hst hread hvals hkept

/-- Settles O29: the check after the last pair fails. -/
theorem part3Overrun : Obligations.Part3Overrun := by
  rintro s g c _ ps xs hs hbuf hst rfl h0 hpairs hover
  have ⟨_, _, hchan⟩ := hs
  have hread := readSpectrum_overrun (p := s.mdPos) h0 hpairs hover
  rw [← p23start_eq hchan] at hread
  exact exec_huffGranule_err hs hbuf hst hread

end Sys2Proof.Proofs

/-! # The Huffman family, part 4: the tables themselves -/

namespace Sys2Proof.Machine

open Sys2Proof.Safety

/-! ## One codeword of 1 to 32 bits for each pair -/

/-- The properties of R404 beside prefix freedom: one codeword for each pair up to `xmax`, and every codeword a string
of 1 to 32 bits for such a pair. -/
structure CodesPairs (xmax : Nat) (t : PairTable) : Prop where
  one : ∀ x ≤ xmax, ∀ y ≤ xmax, t.countP (fun e => e.val = (x, y)) = 1
  entry : ∀ e ∈ t, e.val.1 ≤ xmax ∧ e.val.2 ≤ xmax ∧ 1 ≤ e.len ∧ e.len ≤ 32 ∧ e.code < 2 ^ e.len

theorem codesPairs_of_tableOk {xmax : Nat} {t : PairTable} (h : tableOk xmax t = true) : CodesPairs xmax t := by
  simp only [tableOk, Bool.and_eq_true, List.all_eq_true, decide_eq_true_eq, List.mem_range, Nat.lt_succ_iff] at h
  obtain ⟨⟨-, hentry⟩, hone⟩ := h
  refine ⟨hone, fun e he => ?_⟩
  obtain ⟨⟨⟨⟨hpos, hlen⟩, hcode⟩, hx⟩, hy⟩ := hentry e he
  exact ⟨hx, hy, hpos, hlen, hcode⟩

/-- The stand-in table lists the pairs row by row. -/
theorem plainTable_vals (xmax : Nat) :
    (plainTable xmax).map Code.val = List.range (xmax + 1) ×ˢ List.range (xmax + 1) := by
  rw [plainTable, List.map_flatMap]
  simp only [List.map_map]
  rfl

theorem plainTable_codesPairs {xmax : Nat} (h : xmax ≤ 15) : CodesPairs xmax (plainTable xmax) where
  one x hx y hy := by
    have hnodup : ((plainTable xmax).map Code.val).Nodup := by
      rw [plainTable_vals]
      exact List.nodup_range.product List.nodup_range
    have hmem : (x, y) ∈ (plainTable xmax).map Code.val := by
      rw [plainTable_vals]
      exact List.mem_product.2 ⟨List.mem_range.2 (Nat.lt_succ_of_le hx), List.mem_range.2 (Nat.lt_succ_of_le hy)⟩
    have hcount := List.count_eq_one_of_mem hnodup hmem
    rw [List.count_eq_countP, List.countP_map] at hcount
    simpa [Function.comp_def, beq_eq_decide] using hcount
  entry := by
    simp only [plainTable, cw, List.mem_flatMap, List.mem_map, List.mem_range]
    rintro _ ⟨x, hx, y, hy, rfl⟩
    dsimp only
    omega

theorem openTable_codesPairs (t : Nat) : CodesPairs (xmaxOf t) (openTable t) := by
  unfold openTable
  split
  next hok => exact codesPairs_of_tableOk hok
  next => exact plainTable_codesPairs (xmaxOf_le t)

/-- Ids that share a code table share their magnitudes (R390). -/
theorem xmaxOf_codeOfId (t : Nat) : xmaxOf (codeOfId t) = xmaxOf t := by
  by_cases h : t < 16
  · rw [codeOfId, if_pos h]
  · have hbig : ∀ u, 16 ≤ u → xmaxOf u = 15 := fun u hu => List.getD_eq_default _ _ hu
    rw [hbig t (by omega), hbig]
    unfold codeOfId
    split_ifs <;> omega

theorem hcode_codesPairs (t : Nat) : CodesPairs (xmaxOf t) (hcode t) := by
  rw [← xmaxOf_codeOfId]
  unfold hcode
  split
  next h => exact h ▸ codesPairs_of_tableOk (by decide)
  next h => exact h ▸ codesPairs_of_tableOk (by decide)
  next h => exact h ▸ codesPairs_of_tableOk (by decide)
  next h => exact h ▸ codesPairs_of_tableOk (by decide)
  next h => exact h ▸ codesPairs_of_tableOk (by decide)
  next => exact openTable_codesPairs _

theorem CodesApart.eq {α : Type} {t : List (Code α)} {e f : Code α} (ht : CodesApart t) (he : e ∈ t) (hf : f ∈ t)
    (hlen : e.len ≤ f.len) (hcode : f.code / 2 ^ (f.len - e.len) = e.code) : e = f :=
  (ht e he).2 f hf (codePrefix_iff.2 ⟨hlen, hcode⟩)

/-! ## Complete tables -/

/-- Kraft sum 1, in parts of 2^32, and longest codewords of `n` bits (R404). -/
def CompleteUpTo {α : Type} (n : Nat) (t : List (Code α)) : Prop :=
  (t.map fun e => 2 ^ (32 - e.len)).sum = 2 ^ 32 ∧ ∃ e ∈ t, e.len = n ∧ ∀ f ∈ t, f.len ≤ n

theorem hcode_completeUpTo : ∀ t ∈ [(1, 3), (2, 6), (3, 6), (5, 8), (6, 7)], CompleteUpTo t.2 (hcode t.1) := by
  unfold CompleteUpTo
  decide

theorem quadA_completeUpTo : CompleteUpTo 6 quadA := by
  unfold CompleteUpTo
  decide

theorem quadB_completeUpTo : CompleteUpTo 4 quadB := by
  unfold CompleteUpTo
  decide

/-! ## One codeword for each quad -/

/-- The properties of R404 for a table of quads: one codeword for each, and every codeword a string of its length for a
quad, beginning no other codeword. -/
def CodesQuads (t : List (Code Nat)) : Prop :=
  (∀ v < 16, (t.filter fun e => e.val = v).length = 1) ∧
  ∀ e ∈ t, e.val < 16 ∧ e.code < 2 ^ e.len ∧
    ∀ f ∈ t, e.len ≤ f.len → f.code / 2 ^ (f.len - e.len) = e.code → e = f

theorem quadTable_codesQuads (sel : Bool) : CodesQuads (quadTable sel) := by
  have hone : ∀ v < 16, ((quadTable sel).filter fun e => e.val = v).length = 1 := by
    cases sel
    · decide
    · decide
  have hentry : ∀ e ∈ quadTable sel, e.val < 16 ∧ e.code < 2 ^ e.len := by
    cases sel
    · decide
    · decide
  refine ⟨hone, fun e he => ?_⟩
  obtain ⟨hval, hcode⟩ := hentry e he
  exact ⟨hval, hcode, fun f hf => (quadTable_codesApart sel).eq he hf⟩

end Sys2Proof.Machine

namespace Sys2Proof.Proofs

open Sys2Proof.Machine Sys2Proof.Safety

/-- Settles O24: the fixed tables are computed, and a supplied table is used only with the properties of R404. -/
theorem codeTables : Obligations.CodeTables := by
  refine ⟨hcode_completeUpTo, ?_, fun t _ _ _ _ => ⟨fun x hx y hy => ?_, fun e he => ?_⟩⟩
  · rw [List.forall_mem_cons, List.forall_mem_singleton]
    obtain ⟨hkraftA, hlongestA⟩ := quadA_completeUpTo
    obtain ⟨hkraftB, hlongestB⟩ := quadB_completeUpTo
    exact ⟨⟨hkraftA, hlongestA, quadTable_codesQuads false⟩, hkraftB, hlongestB, quadTable_codesQuads true⟩
  · rw [← List.countP_eq_length_filter]
    exact (hcode_codesPairs t).one x hx y hy
  · obtain ⟨hx, hy, hpos, hlen, hcode⟩ := (hcode_codesPairs t).entry e he
    exact ⟨hx, hy, hpos, hlen, hcode, fun f hf => (hcode_codesApart t).eq he hf⟩

end Sys2Proof.Proofs

/-! # The scale-factor family, part 1: scale factors as strings of fields -/

namespace Sys2Proof.Machine

open Sys2Proof.Safety

/-! ## Fields without checks -/

/-- Fields of the widths `ws` that no check follows. -/
def unchecked (ws : List Nat) : List CheckedField := ws.map fun w => (w, none)

theorem unchecked_fst (ws : List Nat) : (unchecked ws).map Prod.fst = ws := List.map_map.trans (List.map_id ws)

@[simp] theorem totalWidth_unchecked (ws : List Nat) : totalWidth (unchecked ws) = ws.sum :=
  congrArg List.sum (unchecked_fst ws)

theorem firstFault_unchecked (ws : List Nat) : firstFault (unchecked ws) = none := by
  induction ws with
  | nil => rfl
  | cons w ws ih => exact congrArg (Option.map (afterBits w)) ih

/-- Only the end of the stream ends the reading of such fields early (R251). -/
theorem ending_unchecked (ws : List Nat) (r : Nat) :
    ending (unchecked ws) r = if ws.sum ≤ r then none else some (.unexpectedEnd, fieldStart ws r) := by
  rw [← readOutcome_eq_ending, firstFault_unchecked, unchecked_fst, readOutcome]

theorem flatMap_unchecked {ι : Type} (l : List ι) (w : Nat) :
    (l.flatMap fun _ => unchecked [w]) = unchecked (List.replicate l.length w) := by
  induction l with
  | nil => rfl
  | cons i l ih => exact congrArg (List.cons (w, none)) ih

namespace Parses

section
variable {α : Type} {src : Src} {p : Nat} {x : Rd α} {ws : List Nat} {V : α → Prop}

theorem unchecked_ok (h : Parses src p x (unchecked ws) V) (hlen : p + ws.sum ≤ src.len) :
    ∃ a, x p = .ok a (p + ws.sum) ∧ V a := by
  rw [← totalWidth_unchecked]
  exact h.of_none (by rw [ending_unchecked, if_pos (by omega)])

theorem unchecked_short (h : Parses src p x (unchecked ws) V) (hp : p ≤ src.len) (hlen : src.len < p + ws.sum) :
    x p = .err .unexpectedEnd (p + fieldStart ws (src.len - p)) :=
  h.of_some (by rw [ending_unchecked, if_neg (by omega)])

end

/-- The items `b0, b0 + 1, …` in a row: each begins after the fields of those before it. -/
theorem forEach_range' {α : Type} {src : Src} {f : Nat → Rd α} {F : Nat → List CheckedField}
    {V : Nat → Nat → α → Prop} (hf : ∀ b p, Parses src p (f b) (F b) (V b p)) (b0 n p : Nat) :
    Parses src p (Act.forEach f (List.range' b0 n)) ((List.range' b0 n).flatMap F) fun l =>
      l.length = n ∧ ∀ k < n, ∀ d, V (b0 + k) (p + totalWidth ((List.range' b0 k).flatMap F)) (l.getD k d) := by
  induction n generalizing b0 p with
  | zero => exact pure ⟨rfl, nofun⟩
  | succ n ih =>
    refine (hf b0 p).bind fun a ha _ => (ih (b0 + 1) _).bind_pure fun l ⟨hlen, hl⟩ =>
      ⟨congrArg Nat.succ hlen, fun k hk d => ?_⟩
    cases k with
    | zero => exact ha
    | succ k =>
      rw [List.range'_succ, List.flatMap_cons, totalWidth_append, ← Nat.add_assoc p,
        ← Nat.succ_add_eq_add_succ b0 k]
      exact hl k (Nat.lt_of_succ_lt_succ hk) d

end Parses

/-! ## Scale factors in a row -/

section
variable (src : Src)

/-- A scale factor of at most 4 bits is the value of its bits (R420). -/
theorem nibble_takes {w : Nat} (hw : w ≤ 4) (p : Nat) :
    Takes src p w ((bitRead src w).bind fun v => Act.pure (BitVec.ofNat 4 v)) (·.toNat = bitsAt src p w) := by
  refine (bitRead_takes src w p).bind_pure fun v hv => ?_
  have hlt : bitsAt src p w < 2 ^ 4 := (bitsAt_lt src p w).trans_le (Nat.pow_le_pow_right (by decide) hw)
  rw [BitVec.toNat_ofNat, hv, Nat.mod_eq_of_lt hlt]

theorem nibble_parses {w : Nat} (hw : w ≤ 4) (p : Nat) :
    Parses src p ((bitRead src w).bind fun v => Act.pure (BitVec.ofNat 4 v)) (unchecked [w])
      (·.toNat = bitsAt src p w) :=
  (((bitRead_parses src w p).bind_pure (W := fun _ => True) fun _ _ => trivial).and fun a q h =>
    (nibble_takes src hw p a q h).2.2).mono fun _ h => h.2

/-- `n` scale factors of one width in a row. -/
theorem nibbles_parses {w : Nat} (hw : w ≤ 4) (n p : Nat) :
    Parses src p (Act.repeat ((bitRead src w).bind fun v => Act.pure (BitVec.ofNat 4 v)) n)
      (unchecked (List.replicate n w)) fun l =>
      l.length = n ∧ ∀ k < n, (l.getD k 0).toNat = bitsAt src (p + k * w) w := by
  have hfields := Parses.replicate (n := w) (fun q => (nibble_parses src hw q).mono fun _ _ => trivial)
    (fun _ => rfl) n p
  rw [flatMap_unchecked, List.length_range] at hfields
  refine (hfields.and fun l q h => ?_).mono fun _ h => h.2
  obtain ⟨-, -, hlen, hl⟩ := Takes.replicate (fun q => nibble_takes src hw q) n p l q h
  exact ⟨hlen, fun k hk => by rw [Nat.mul_comm]; exact hl k hk 0⟩

end

/-! ## Long bands -/

/-- A long band's field, none where its group is copied (R422, R423). -/
def longField (cp : List Bool) (s1 s2 b : Nat) : List CheckedField :=
  if cp.getD (groupOf b) false then [] else unchecked [if b < 11 then s1 else s2]

/-- The fields of the long bands of a list are those of the bands not copied. -/
theorem flatMap_longField (cp : List Bool) (s1 s2 : Nat) (bs : List Nat) :
    bs.flatMap (longField cp s1 s2) =
      unchecked ((bs.filter fun b => !cp.getD (groupOf b) false).map fun b => if b < 11 then s1 else s2) := by
  induction bs with
  | nil => rfl
  | cons b bs ih =>
    rw [List.flatMap_cons, ih, longField, List.filter_cons]
    cases cp.getD (groupOf b) false <;> rfl

/-- What a Long part's scale factors are (R422, R423, R427): copied, or the bits at their place. -/
def LongHolds (src : Src) (p : Nat) (cp : List Bool) (sf0 : ScaleFac) (s1 s2 : Nat) (l : List (BitVec 4)) : Prop :=
  l.length = 22 ∧ l.getD 21 0 = 0 ∧
  (∀ b < 21, cp.getD (groupOf b) false = true → l.getD b 0 = sf0.longAt b) ∧
  ∀ b < 21, cp.getD (groupOf b) false = false →
    (l.getD b 0).toNat = bitsAt src (p + longOffset cp s1 s2 b) (if b < 11 then s1 else s2)

section
variable (src : Src) {s1 s2 : Nat} (h1 : s1 ≤ 4) (h2 : s2 ≤ 4)
include h1 h2

theorem readLongBand_parses (cp : List Bool) (sf0 : ScaleFac) (b p : Nat) :
    Parses src p (readLongBand src (s1, s2) cp sf0 b) (longField cp s1 s2 b) fun v =>
      (cp.getD (groupOf b) false = true → v = sf0.longAt b) ∧
      (cp.getD (groupOf b) false = false → v.toNat = bitsAt src p (if b < 11 then s1 else s2)) := by
  unfold readLongBand longField
  cases cp.getD (groupOf b) false with
  | true => exact .pure ⟨fun _ => rfl, nofun⟩
  | false => exact (nibble_parses src (by split <;> assumption) p).mono fun v hv => ⟨nofun, fun _ => hv⟩

theorem longBands_parses (cp : List Bool) (sf0 : ScaleFac) (p : Nat) :
    Parses src p ((Act.forEach (readLongBand src (s1, s2) cp sf0) (List.range 21)).bind fun l =>
        Act.pure (ScaleFac.long (l ++ [0])))
      (unchecked (scaleFields .long cp s1 s2)) fun sf => ∃ l, sf = .long l ∧ LongHolds src p cp sf0 s1 s2 l := by
  have hbands := Parses.forEach_range' (readLongBand_parses src h1 h2 cp sf0) 0 21 p
  rw [flatMap_longField, ← List.range_eq_range'] at hbands
  refine hbands.bind_pure fun l ⟨hlen, hl⟩ => ⟨l ++ [0], rfl, ?_⟩
  have hband : ∀ b < 21,
      (cp.getD (groupOf b) false = true → (l ++ [0]).getD b 0 = sf0.longAt b) ∧
      (cp.getD (groupOf b) false = false →
        ((l ++ [0]).getD b 0).toNat = bitsAt src (p + longOffset cp s1 s2 b) (if b < 11 then s1 else s2)) := by
    intro b hb
    have h := hl b hb 0
    rwa [Nat.zero_add, flatMap_longField, totalWidth_unchecked, ← List.range_eq_range',
      ← List.getD_append l [0] 0 b (hlen.symm ▸ hb)] at h
  exact ⟨by simp [hlen], by simp [List.getD, hlen], fun b hb => (hband b hb).1, fun b hb => (hband b hb).2⟩

end

/-! ## Short bands -/

/-- The fields of a short band: the three windows together (R425). -/
def shortField (s1 s2 b : Nat) : List CheckedField := unchecked (List.replicate 3 (if b < 6 then s1 else s2))

/-- A band takes three windows (R425). -/
theorem shortOffset_succ (s1 s2 b : Nat) :
    shortOffset s1 s2 (b + 1) 0 = shortOffset s1 s2 b 0 + 3 * if b < 6 then s1 else s2 := by
  unfold shortOffset
  rcases Nat.lt_trichotomy b 5 with hb | rfl | hb
  · rw [if_pos (by omega), if_pos (by omega), if_pos (by omega)]
    ring
  · simp only [Nat.reduceAdd, Nat.reduceLT, if_true, if_false]
    ring
  · obtain ⟨k, rfl⟩ := Nat.exists_eq_add_of_le hb
    rw [if_neg (by omega), if_neg (by omega), if_neg (by omega), show 5 + 1 + k + 1 - 6 = k + 1 by omega,
      show 5 + 1 + k - 6 = k by omega]
    ring

/-- From band b0 of a Short part on, `n` bands take the bits up to the place of band b0 + n. -/
theorem shortOffset_add_totalWidth (s1 s2 b0 n : Nat) :
    shortOffset s1 s2 b0 0 + totalWidth ((List.range' b0 n).flatMap (shortField s1 s2)) =
      shortOffset s1 s2 (b0 + n) 0 := by
  induction n with
  | zero => rfl
  | succ n ih =>
    rw [List.range'_1_concat, List.flatMap_append, List.flatMap_singleton, totalWidth_append, ← Nat.add_assoc, ih,
      ← Nat.add_assoc, shortOffset_succ, shortField, totalWidth_unchecked, List.sum_replicate_nat]

/-- Window w of a band comes after w windows of it (R425). -/
theorem shortOffset_window (s1 s2 b w : Nat) :
    shortOffset s1 s2 b w = shortOffset s1 s2 b 0 + w * if b < 6 then s1 else s2 := by
  unfold shortOffset
  split_ifs <;> ring

/-- The short bands of a Mixed part lie as those of a Short part do, after eight long bands in place of nine windows
(R426). -/
theorem mixedOffset_add (s1 s2 : Nat) {b w : Nat} (hb : 3 ≤ b) :
    mixedOffset s1 s2 b w + s1 = shortOffset s1 s2 b w := by
  obtain ⟨b, rfl⟩ := Nat.exists_eq_add_of_le hb
  grind [mixedOffset, shortOffset]

section
variable (src : Src) {s1 s2 : Nat} (h1 : s1 ≤ 4) (h2 : s2 ≤ 4)
include h1 h2

/-- The short bands from band b0 on, which begins at `p`: each window is the bits at its place, the last band 0
(R425-R427). -/
theorem readShortBands_parses {b0 : Nat} (hb0 : b0 ≤ 12) (p : Nat) :
    Parses src p (readShortBands src (s1, s2) b0) ((List.range' b0 (12 - b0)).flatMap (shortField s1 s2)) fun v =>
      v.length = 13 - b0 ∧ v.getD (12 - b0) [] = [0, 0, 0] ∧
      ∀ b, b0 ≤ b → b < 12 → ∀ w < 3, ∀ q, q + shortOffset s1 s2 b0 0 = p + shortOffset s1 s2 b w →
        ((v.getD (b - b0) []).getD w 0).toNat = bitsAt src q (if b < 6 then s1 else s2) := by
  refine (Parses.forEach_range'
    (fun b q => nibbles_parses src (w := if b < 6 then s1 else s2) (by split <;> assumption) 3 q)
    b0 (12 - b0) p).bind_pure fun v ⟨hlen, hv⟩ => ⟨?_, by simp [List.getD, hlen], fun b hb hb12 w hw q hq => ?_⟩
  · rw [List.length_append, hlen, List.length_singleton]
    omega
  · obtain ⟨k, rfl⟩ := Nat.exists_eq_add_of_le hb
    have hk : k < 12 - b0 := by omega
    have hplace := shortOffset_add_totalWidth s1 s2 b0 k
    rw [shortOffset_window s1 s2 (b0 + k) w] at hq
    rw [Nat.add_sub_cancel_left, List.getD_append _ _ _ _ (hlen.symm ▸ hk), (hv k hk []).2 w hw]
    congr 1
    change p + totalWidth ((List.range' b0 k).flatMap (shortField s1 s2)) + _ = q
    omega

/-- What a Short part's scale factors are (R425, R427). -/
def ShortHolds (src : Src) (p s1 s2 : Nat) (v : List (List (BitVec 4))) : Prop :=
  v.length = 13 ∧ v.getD 12 [] = [0, 0, 0] ∧
  ∀ b < 12, ∀ w < 3, ((v.getD b []).getD w 0).toNat =
    bitsAt src (p + shortOffset s1 s2 b w) (if b < 6 then s1 else s2)

/-- What a Mixed part's scale factors are (R426, R427). -/
def MixedHolds (src : Src) (p s1 s2 : Nat) (l : List (BitVec 4)) (v : List (List (BitVec 4))) : Prop :=
  l.length = 8 ∧ v.length = 10 ∧ v.getD 9 [] = [0, 0, 0] ∧
  (∀ b < 8, (l.getD b 0).toNat = bitsAt src (p + b * s1) s1) ∧
  ∀ b, 3 ≤ b → b < 12 → ∀ w < 3, ((v.getD (b - 3) []).getD w 0).toNat =
    bitsAt src (p + mixedOffset s1 s2 b w) (if b < 6 then s1 else s2)

theorem shortPart_parses (cp : List Bool) (p : Nat) :
    Parses src p ((readShortBands src (s1, s2) 0).bind fun v => Act.pure (ScaleFac.short v))
      (unchecked (scaleFields .short cp s1 s2)) fun sf => ∃ v, sf = .short v ∧ ShortHolds src p s1 s2 v := by
  refine (readShortBands_parses src h1 h2 (Nat.zero_le 12) p).bind_pure fun v ⟨hlen, hlast, hv⟩ =>
    ⟨v, rfl, hlen, hlast, fun b hb w hw => hv b (Nat.zero_le b) hb w hw _ ?_⟩
  simp [shortOffset]

theorem mixedPart_parses (cp : List Bool) (p : Nat) :
    Parses src p
      ((Act.repeat ((bitRead src s1).bind fun v => Act.pure (BitVec.ofNat 4 v)) 8).bind fun l =>
        (readShortBands src (s1, s2) 3).bind fun v => Act.pure (ScaleFac.mixed l v))
      (unchecked (scaleFields .mixed cp s1 s2)) fun sf => ∃ l v, sf = .mixed l v ∧ MixedHolds src p s1 s2 l v := by
  refine (nibbles_parses src h1 8 p).bind fun l ⟨hl8, hl⟩ _ =>
    (readShortBands_parses src h1 h2 (by decide) _).bind_pure fun v ⟨hlen, hlast, hv⟩ =>
      ⟨l, v, rfl, hl8, hlen, hlast, hl, fun b hb3 hb w hw => hv b hb3 hb w hw _ ?_⟩
  have hplace := mixedOffset_add s1 s2 (w := w) hb3
  have hfirst := mixedOffset_add s1 s2 (b := 3) (w := 0) le_rfl
  have hstart : mixedOffset s1 s2 3 0 = 8 * s1 := by simp [mixedOffset]
  rw [totalWidth_unchecked, List.sum_replicate_nat]
  omega

end

/-! ## The scale factors of a part -/

theorem slen_le (i : BitVec 4) : (slen i).1 ≤ 4 ∧ (slen i).2 ≤ 4 := by
  revert i
  decide

/-- What a part's scale factors are, by its shape (R422-R427). -/
def ScaleFacHolds (src : Src) (p : Nat) (shape : Shape) (cp : List Bool) (sf0 : ScaleFac) (s1 s2 : Nat)
    (sf : ScaleFac) : Prop :=
  match shape with
  | .long => ∃ l, sf = .long l ∧ LongHolds src p cp sf0 s1 s2 l
  | .short => ∃ v, sf = .short v ∧ ShortHolds src p s1 s2 v
  | .mixed => ∃ l v, sf = .mixed l v ∧ MixedHolds src p s1 s2 l v

/-- ScaleFactors (R428) reads the fields of the part's shape, in order. -/
theorem readScaleFac_parses (src : Src) (gc : GranInfo) (cp : List Bool) (sf0 : ScaleFac) (p : Nat) {s1 s2 : Nat}
    (hslen : (s1, s2) = slen gc.scalefacCompress) :
    Parses src p (readScaleFac src gc cp sf0) (unchecked (scaleFields (shapeOf gc) cp s1 s2))
      (ScaleFacHolds src p (shapeOf gc) cp sf0 s1 s2) := by
  have ⟨h1, h2⟩ := slen_le gc.scalefacCompress
  rw [← hslen] at h1 h2
  rw [readScaleFac, ← hslen]
  cases shapeOf gc with
  | long => exact longBands_parses src h1 h2 cp sf0 p
  | short => exact shortPart_parses src h1 h2 cp p
  | mixed => exact mixedPart_parses src h1 h2 cp p

/-- The fields of a Long part by groups (R422, R423). -/
theorem scaleFields_long (a b c d : Bool) (s1 s2 : Nat) : scaleFields .long [a, b, c, d] s1 s2 =
    (if a then [] else List.replicate 6 s1) ++ (if b then [] else List.replicate 5 s1) ++
      (if c then [] else List.replicate 5 s2) ++ (if d then [] else List.replicate 5 s2) := by
  cases a <;> cases b <;> cases c <;> cases d <;> rfl

/-- Only a Long part copies, so only its fields depend on the copy flags (R423, R424). -/
theorem scaleFields_of_ne_long {shape : Shape} (h : shape ≠ .long) (cp cp' : List Bool) (s1 s2 : Nat) :
    scaleFields shape cp s1 s2 = scaleFields shape cp' s1 s2 := by
  cases shape with
  | long => exact absurd rfl h
  | short => rfl
  | mixed => rfl

/-- The bits of a part's scale factors are those of its fields (R427). -/
theorem scaleFields_sum {shape : Shape} {cp : List Bool} (hcp : shape = .long → cp.length = 4) (s1 s2 : Nat) :
    (scaleFields shape cp s1 s2).sum = partTwoLength shape cp s1 s2 := by
  cases shape with
  | long =>
    obtain ⟨a, b, c, d, rfl⟩ := List.length_eq_four.1 (hcp rfl)
    rw [scaleFields_long]
    simp only [List.sum_append, apply_ite List.sum, List.sum_nil, List.sum_replicate_nat, partTwoLength,
      List.getD_cons_zero, List.getD_cons_succ]
    split_ifs <;> omega
  | short => rw [scaleFields, List.sum_append, List.sum_replicate_nat, List.sum_replicate_nat, partTwoLength]
  | mixed => rw [scaleFields, List.sum_append, List.sum_replicate_nat, List.sum_replicate_nat, partTwoLength]

end Sys2Proof.Machine

/-! # The scale-factor family, part 2: SCALEFAC -/

namespace Sys2Proof.Machine

open Sys2Proof.Safety

/-! ## Copies -/

theorem copyFlags_eq (si : SideInfo) (g : Gran) (c : Chan) :
    copyFlags si g c = if g = .g1 then si.scfsi.getD (chanIdx c) [] else [false, false, false, false] := by
  cases g <;> rfl

/-- A part copies a group only where it is Long and granule 0 is decoded and Long (R424, R428, R625). -/
def CopyLegal (s : State) (g : Gran) (c : Chan) : Prop :=
  true ∈ copyFlags s.frm.si g c →
    shapeOf (granInfo s.frm.si g c) = .long ∧ s.mdst.get .g0 c ≠ .none ∧ ∃ l, (s.md.get .g0 c).sf = .long l

theorem copyLegal_of_not_mem {s : State} {g : Gran} {c : Chan}
    (h : g = .g1 → true ∉ s.frm.si.scfsi.getD (chanIdx c) []) : CopyLegal s g c := by
  intro hmem
  cases g with
  | g0 => simp [copyFlags] at hmem
  | g1 => exact absurd hmem (h rfl)

theorem any_id_iff {cp : List Bool} : cp.any id = true ↔ true ∈ cp := by simp

/-- The condition under which ScaleFactors waits for granule 0 (R625, log 10). -/
def copyNotReady (s : State) (g : Gran) (c : Chan) : Bool :=
  (copyFlags s.frm.si g c).any id && decide (shapeOf (granInfo s.frm.si g c) = .long) &&
    decide (s.mdst.get .g0 c = .none)

/-- The condition under which ScaleFactors refuses a copy (R424). -/
def copyIllegal (s : State) (g : Gran) (c : Chan) : Bool :=
  scfsiIllegal (shapeOf (granInfo s.frm.si g c)) (copyFlags s.frm.si g c) (s.md.get .g0 c).sf

theorem isLong_eq_false {sf : ScaleFac} : sf.isLong = false ↔ ∀ l, sf ≠ .long l := by
  cases sf <;> simp [ScaleFac.isLong]

theorem copyIllegal_iff {s : State} {g : Gran} {c : Chan} : copyIllegal s g c = true ↔
    true ∈ copyFlags s.frm.si g c ∧
      (shapeOf (granInfo s.frm.si g c) ≠ .long ∨ ∀ l, (s.md.get .g0 c).sf ≠ .long l) := by
  rw [copyIllegal, scfsiIllegal.eq_def, Bool.and_eq_true, any_id_iff, ← isLong_eq_false]
  cases shapeOf (granInfo s.frm.si g c) <;> simp

theorem CopyLegal.ready {s : State} {g : Gran} {c : Chan} (h : CopyLegal s g c) : copyNotReady s g c = false := by
  by_cases hmem : true ∈ copyFlags s.frm.si g c
  · simp [copyNotReady, (h hmem).2.1]
  · simp [copyNotReady, hmem]

theorem CopyLegal.legal {s : State} {g : Gran} {c : Chan} (h : CopyLegal s g c) : copyIllegal s g c = false := by
  refine Bool.eq_false_of_not_eq_true fun hill => ?_
  obtain ⟨hmem, hbad⟩ := copyIllegal_iff.1 hill
  obtain ⟨hshape, -, l, hl⟩ := h hmem
  exact hbad.elim (absurd hshape) (absurd hl <| · l)

/-! ## ScaleFactors -/

/-- The reads of ScaleFactors for a part (R428). -/
def partScaleFac (s : State) (g : Gran) (c : Chan) (src : Src) : Rd ScaleFac :=
  readScaleFac src (granInfo s.frm.si g c) (copyFlags s.frm.si g c) (s.md.get .g0 c).sf

section
variable {s : State} {g : Gran} {c : Chan}

theorem partScaleFac_parses (p : Nat) {s1 s2 : Nat} (hslen : (s1, s2) = slen (granInfo s.frm.si g c).scalefacCompress) :
    Parses (src s .md) p (partScaleFac s g c (src s .md))
      (unchecked (scaleFields (shapeOf (granInfo s.frm.si g c)) (copyFlags s.frm.si g c) s1 s2))
      (ScaleFacHolds (src s .md) p (shapeOf (granInfo s.frm.si g c)) (copyFlags s.frm.si g c) (s.md.get .g0 c).sf
        s1 s2) :=
  readScaleFac_parses _ _ _ _ p hslen

/-- ScaleFactors refuses an illegal copy before it moves (R424, log 11). -/
theorem scaleFactors_illegal (hready : copyNotReady s g c = false) (hill : copyIllegal s g c = true) :
    scaleFactors g c s = .err .illegalScfsiOnShortBlock s := by
  refine (Act.bind_of_ok (a := ()) (t := s) ?_).trans (Act.bind_of_err ?_)
  · exact Act.need_of_true (congrArg not hready)
  · exact Act.need_of_false (congrArg not hill)

variable (hcopy : CopyLegal s g c) {p : Nat} (hp : p = min (p23start s.frm g c) (8 * s.mdbuf.length))
include hcopy hp

/-- Where its copies are legal, ScaleFactors seeks the part's start and reads there (R428). -/
theorem scaleFactors_seek : scaleFactors g c s =
    ((onReader .md (partScaleFac s g c)).bind fun sf => Act.modify fun t =>
      { t with md := t.md.set g c { t.md.get g c with sf, p23start := p23start s.frm g c, p2len := t.mdPos - p } })
      { s with mdPos := p } := by
  subst hp
  refine (Act.bind_of_ok (a := ()) (t := s) ?_).trans ((Act.bind_of_ok (a := ()) (t := s) ?_).trans rfl)
  · exact Act.need_of_true (congrArg not hcopy.ready)
  · exact Act.need_of_true (congrArg not hcopy.legal)

theorem scaleFactors_ok {sf : ScaleFac} {q : Nat} (h : partScaleFac s g c (src s .md) p = .ok sf q) :
    scaleFactors g c s = .ok () { s with
      mdPos := q
      md := s.md.set g c { s.md.get g c with sf, p23start := p23start s.frm g c, p2len := q - p } } := by
  rw [scaleFactors_seek hcopy hp]
  exact Act.bind_of_ok (onReader_ok (r := .md) (f := partScaleFac s g c) (s := { s with mdPos := p }) h)

theorem scaleFactors_err {e : Err} {q : Nat} (h : partScaleFac s g c (src s .md) p = .err e q) :
    scaleFactors g c s = .err e { s with mdPos := q } := by
  rw [scaleFactors_seek hcopy hp]
  exact Act.bind_of_err (onReader_err (r := .md) (f := partScaleFac s g c) (s := { s with mdPos := p }) h)

end

/-! ## The command -/

section
variable {s : State} {g : Gran} {c : Chan} (hs : PartReady s c) (hbuf : s.mdbuf ≠ [])
include hs hbuf

/-- The preconditions of SCALEFAC hold (R431, R625): what is left of its body is the rest. -/
theorem scalefac_preconditions {α : Type} (body : Cmd α) :
    ((needPart c).bind fun _ => (needStage fun s => !s.mdbuf.isEmpty).bind fun _ => body) s = body s := by
  have hstage : needStage (fun s => !s.mdbuf.isEmpty) s = .ok () s := Act.need_of_true (by simp [hbuf])
  obtain ⟨-, hframe, hchan⟩ := hs
  rw [Act.bind_of_ok (needPart_ok hframe (chanLegal_of_ne hchan)), Act.bind_of_ok hstage]

/-- SCALEFAC of a part whose scale factors are not read (R431, R620). -/
theorem exec_scalefac_err {e : Err} {t : State} (h : scaleFactors g c s = .err e t) :
    exec (.scalefac g c) s = .next (record e (e.cls true) 0x38 t) := by
  refine command_err (modeRefuses_of_ready hs.1 0x38) ?_
  rw [scalefac_preconditions hs hbuf, Act.bind_of_err h]

variable {p s1 s2 : Nat} (hcopy : CopyLegal s g c) (hp : p = min (partStart s.frm g c) (8 * s.mdbuf.length))
  (hslen : (s1, s2) = slen (granInfo s.frm.si g c).scalefacCompress) {ws : List Nat}
  (hws : ws = scaleFields (shapeOf (granInfo s.frm.si g c)) (copyFlags s.frm.si g c) s1 s2)
include hcopy hp hslen hws

/-- SCALEFAC of a part whose scale factors MDBUF holds whole (R431). -/
theorem exec_scalefac_ok (hlen : p + ws.sum ≤ 8 * s.mdbuf.length) :
    ∃ sf, ScaleFacHolds (src s .md) p (shapeOf (granInfo s.frm.si g c)) (copyFlags s.frm.si g c) (s.md.get .g0 c).sf
        s1 s2 sf ∧
      exec (.scalefac g c) s = .next { s with
        mdPos := p + ws.sum
        md := s.md.set g c { s.md.get g c with sf, p23start := partStart s.frm g c, p2len := ws.sum }
        mdst := s.mdst.set g c .sf
        result0 := wordOfNat ws.sum
        result1 := wordOfNat (p + ws.sum) } := by
  subst hws
  obtain ⟨sf, hread, hsf⟩ := (partScaleFac_parses p hslen).unchecked_ok hlen
  have ⟨_, _, hchan⟩ := hs
  rw [← p23start_eq hchan] at hp
  refine ⟨sf, hsf, command_ok (main := true) (modeRefuses_of_ready hs.1 0x38) ?_⟩
  rw [scalefac_preconditions hs hbuf, Act.bind_of_ok (scaleFactors_ok hcopy hp hread), Act.modify_apply]
  simp only [setMdst, setResults, PerPart.get_set_self, Nat.add_sub_cancel_left, p23start_eq hchan]

/-- SCALEFAC of a part whose scale factors MDBUF cuts (R253, R431, R433). -/
theorem exec_scalefac_short (hlen : 8 * s.mdbuf.length < p + ws.sum) :
    exec (.scalefac g c) s = .next { s with
      mdPos := p + fieldStart ws (8 * s.mdbuf.length - p)
      err := 0x00380301
      irqStatus := s.irqStatus ||| 0b100 } := by
  subst hws
  have hread := (partScaleFac_parses p hslen).unchecked_short (show p ≤ 8 * s.mdbuf.length by omega) hlen
  have ⟨_, _, hchan⟩ := hs
  rw [← p23start_eq hchan] at hp
  exact exec_scalefac_err hs hbuf (scaleFactors_err hcopy hp hread)

end

end Sys2Proof.Machine

namespace Sys2Proof.Proofs

open Sys2Proof.Machine Sys2Proof.Safety

/-- Settles O30: the fields of the bands not copied, in order, say how the reading ends and where each band is. -/
theorem scalefacLong : Obligations.ScalefacLong := by
  intro s g c p s1 s2 n cp hs hbuf hshape hp hslen hcp hfour hmem hn
  rw [← copyFlags_eq] at hcp
  have hcopy : CopyLegal s g c := fun h => ⟨hshape, hmem (hcp ▸ h)⟩
  have hsum := scaleFields_sum (fun _ : Shape.long = .long => hfour) s1 s2
  have hws : scaleFields .long cp s1 s2 =
      scaleFields (shapeOf (granInfo s.frm.si g c)) (copyFlags s.frm.si g c) s1 s2 := by rw [hshape, hcp]
  rw [← hn] at hsum
  rw [← hsum]
  refine ⟨fun hlen => ?_, exec_scalefac_short hs hbuf hcopy hp hslen hws⟩
  obtain ⟨sf, hsf, hexec⟩ := exec_scalefac_ok hs hbuf hcopy hp hslen hws hlen
  rw [hshape, ← hcp] at hsf
  obtain ⟨l, rfl, h22, hlast, hcopied, hread⟩ := hsf
  exact ⟨l, h22, hlast, hcopied, hread, hexec⟩

/-- Settles O31: the fields of the bands in order say how the reading ends and where each window is. -/
theorem scalefacWindows : Obligations.ScalefacWindows := by
  intro s g c p n s1 s2 hs hbuf hp hslen hnone hn
  have hcopy := copyLegal_of_not_mem hnone
  have hsum (h : shapeOf (granInfo s.frm.si g c) ≠ .long) :=
    (scaleFields_sum (cp := []) (absurd · h) s1 s2).trans hn.symm
  have hws (h : shapeOf (granInfo s.frm.si g c) ≠ .long) :=
    scaleFields_of_ne_long h [] (copyFlags s.frm.si g c) s1 s2
  refine ⟨fun hlen hshape => ?_, fun hlen hshape => ?_, fun hlen hshape => ?_⟩
  · obtain rfl := hsum (hshape ▸ nofun)
    obtain ⟨sf, hsf, hexec⟩ := exec_scalefac_ok hs hbuf hcopy hp hslen (hws (hshape ▸ nofun)) hlen
    rw [hshape] at hsf
    obtain ⟨v, rfl, h13, hlast, hread⟩ := hsf
    exact ⟨v, h13, hlast, hread, hexec⟩
  · obtain rfl := hsum (hshape ▸ nofun)
    obtain ⟨sf, hsf, hexec⟩ := exec_scalefac_ok hs hbuf hcopy hp hslen (hws (hshape ▸ nofun)) hlen
    rw [hshape] at hsf
    obtain ⟨l, v, rfl, h8, h10, hlast, hlong, hread⟩ := hsf
    exact ⟨l, v, h8, h10, hlast, hlong, hread, hexec⟩
  · obtain rfl := hsum hshape
    exact exec_scalefac_short hs hbuf hcopy hp hslen (hws hshape) hlen

/-- Settles O32: the check of R424 comes before the seek. -/
theorem illegalScfsi : Obligations.IllegalScfsi := by
  intro s c hs hbuf hmem hbad
  refine exec_scalefac_err hs hbuf (scaleFactors_illegal ?_ ?_)
  · rcases hbad with hshape | ⟨hstage, -⟩
    · simp [copyNotReady, hshape]
    · simp [copyNotReady, hstage]
  · exact copyIllegal_iff.2 ⟨hmem, hbad.imp_right And.right⟩

end Sys2Proof.Proofs

/-! # The scale-factor family, part 3: MAINDATA -/

namespace Sys2Proof.Machine

open Sys2Proof.Safety

/-! ## The parts in order -/

/-- A loop whose items lead from each state of `st` to the next. -/
theorem Act.forEach_states {σ α ι : Type} {f : ι → Act σ α} {is : List ι} {st : Nat → σ}
    (h : ∀ k i, is[k]? = some i → ∃ a, f i (st k) = .ok a (st (k + 1))) :
    ∃ as : List α, as.length = is.length ∧ Act.forEach f is (st 0) = .ok as (st is.length) := by
  induction is generalizing st with
  | nil => exact ⟨[], rfl, rfl⟩
  | cons i is ih =>
    obtain ⟨a, ha⟩ := h 0 i rfl
    obtain ⟨as, hlen, has⟩ := ih (st := fun k => st (k + 1)) fun k j hj => h (k + 1) j hj
    exact ⟨a :: as, congrArg Nat.succ hlen, (Act.bind_of_ok ha).trans (Act.bind_of_ok has)⟩

/-- A loop each of whose items does its own work, `P i`, and keeps that of the others. -/
theorem Act.wp_forEach_each {σ α ι : Type} {f : ι → Act σ α} {E : Err → σ → Prop} {s : σ} {I : σ → Prop}
    {P : ι → σ → Prop} {is : List ι} (hs : I s)
    (hf : ∀ i ∈ is, ∀ t, I t → (f i).wp (fun _ u => I u ∧ P i u ∧ ∀ j, P j t → P j u) E t) :
    (Act.forEach f is).wp (fun _ u => I u ∧ ∀ i ∈ is, P i u) E s := by
  refine Act.wp_forEach is (fun done t => I t ∧ ∀ i ∈ done, P i t) ?_ ⟨hs, nofun⟩
  rintro done i rest rfl t ⟨ht, hdone⟩
  refine Act.wp_mono (hf i (by simp) t ht) (fun _ u ⟨hu, hi, hkeep⟩ => ⟨hu, fun j hj => ?_⟩) fun _ _ h => h
  rcases List.mem_append.1 hj with hj | hj
  · exact hkeep j (hdone j hj)
  · rwa [List.mem_singleton.1 hj]

theorem parts_length {nch : Nat} (h : nch = 1 ∨ nch = 2) : (parts nch).length = 2 * nch := by
  rcases h with rfl | rfl <;> rfl

/-- One part of MainData whose scale factors and Huffman data decode (R430). -/
theorem mainPart_ok {q : Gran × Chan} {s a b : State} {d : OutDiag} (hsf : scaleFactors q.1 q.2 s = .ok () a)
    (hhuf : huffGranule q.1 q.2 { a with mdst := a.mdst.set q.1 q.2 .sf } = .ok d b) :
    mainPart q s = .ok d { b with mdst := b.mdst.set q.1 q.2 .huf } :=
  (Act.bind_of_ok hsf).trans ((Act.bind_of_ok rfl).trans ((Act.bind_of_ok hhuf).trans rfl))

@[simp] theorem PerPart.set_set {α : Type} (x : PerPart α) (g : Gran) (c : Chan) (u v : α) :
    (x.set g c u).set g c v = x.set g c v := by
  cases g <;> cases c <;> rfl

/-- A part that decodes is marked so, and no other part's mark changes (R430). -/
theorem mainPart_mdst {q : Gran × Chan} {s t : State} {d : OutDiag} (h : mainPart q s = .ok d t) :
    t.mdst = s.mdst.set q.1 q.2 .huf := by
  obtain ⟨_, a, hsf, hrest⟩ := Act.bind_eq_ok.1 h
  obtain ⟨_, _, ⟨⟩, hrest⟩ := Act.bind_eq_ok.1 hrest
  obtain ⟨_, b, hhuf, ⟨⟩⟩ := Act.bind_eq_ok.1 hrest
  have hmdst : a.mdst = s.mdst := ((Act.wp_of_ok hsf).1 (scaleFactors_wp q.1 q.2 s)).2.1
  have hb : b.mdst = a.mdst.set q.1 q.2 .sf := ((Act.wp_of_ok hhuf).1 (huffGranule_wp q.1 q.2 _)).2
  rw [setMdst_mdst, hb, hmdst, PerPart.set_set]

theorem PerPart.get_set_of_get {α : Type} {x : PerPart α} {g g' : Gran} {c c' : Chan} {v : α}
    (h : x.get g' c' = v) : (x.set g c v).get g' c' = v :=
  (PerPart.get_set x g g' c c' v).elim And.left fun hne => hne.1.trans h

/-- The parts of a frame, decoded: they wrote main data only, and all are marked (R430). -/
theorem forEach_mainPart {s u : State} {is : List (Gran × Chan)} {ds : List OutDiag}
    (h : Act.forEach mainPart is s = .ok ds u) : DecodedOnly s u ∧ ∀ q ∈ is, u.mdst.get q.1 q.2 = .huf := by
  refine (Act.wp_of_ok h).1 (Act.wp_forEach_each (I := DecodedOnly s) (P := fun q t => t.mdst.get q.1 q.2 = .huf)
    (E := fun _ _ => True) rfl fun q _ t hst => ?_)
  unfold Act.wp
  cases hq : mainPart q t with
  | err e v => trivial
  | ok d v =>
    have hv := mainPart_mdst hq
    refine ⟨hst.trans ((Act.wp_of_ok hq).1 (mainPart_decodedOnly q t)), ?_, fun r hr => ?_⟩ <;> rw [hv]
    · exact PerPart.get_set_self _ _ _ _
    · exact PerPart.get_set_of_get hr

/-! ## The command -/

theorem DecodedOnly.kept {s t : State} (h : DecodedOnly s t) :
    t.frm = s.frm ∧ t.cfg = s.cfg ∧ t.outMaindata = s.outMaindata ∧ t.outDiag = s.outDiag ∧ t.err = s.err := by
  rw [DecodedOnly] at h
  rw [h]
  exact ⟨rfl, rfl, rfl, rfl, rfl⟩

/-- MAINDATA of a frame whose parts decode (R430, R432). -/
theorem exec_maindata_ok {s u : State} {ds : List OutDiag} (hs : Ready s) (hframe : s.frmValid = true)
    (hbuf : s.mdbuf ≠ []) (h : Act.forEach mainPart (parts s.frm.nch) s = .ok ds u) :
    exec .maindata s = .next { u with
      mdValid := true
      outMaindata := s.outMaindata ++
        [⟨s.frm.fidx, (parts s.frm.nch).map fun q => ⟨q.1, q.2, .huf, u.md.get q.1 q.2⟩⟩]
      outDiag := s.outDiag ++ if s.cfg.emitIntermediates then ds else []
      result0 := wordOfNat (2 * s.frm.nch)
      result1 := wordOfNat u.mdPos } := by
  obtain ⟨hu, hmdst⟩ := forEach_mainPart h
  have hstage : needStage (fun s => !s.mdbuf.isEmpty) s = .ok () s := Act.need_of_true (by simp [hbuf])
  obtain ⟨hfrm, hcfg, hout, hdiag, -⟩ := hu.kept
  have hparts : outMainOf u = ⟨s.frm.fidx, (parts s.frm.nch).map fun q => ⟨q.1, q.2, .huf, u.md.get q.1 q.2⟩⟩ := by
    rw [outMainOf, hfrm]
    exact congrArg (OutMain.mk _) (List.map_congr_left fun q hq => by rw [hmdst q hq])
  have hmain : mainData s =
      .ok () (emitDiag ds { u with mdValid := true, outMaindata := u.outMaindata ++ [outMainOf u] }) :=
    (Act.bind_of_ok h).trans rfl
  refine command_ok (main := true) (modeRefuses_of_ready hs 0x39) ?_
  rw [Act.bind_of_ok (needFrame_ok hframe), Act.bind_of_ok hstage, Act.bind_of_ok hmain, Act.modify_apply,
    emitDiag_append, hparts, hout]
  simp only [setResults, hfrm, hcfg, hdiag]

/-! ## Silent frames -/

/-- The part declares no bits, no big values and scale factors of no width, and copies nothing (R432). -/
def SilentPart (f : Frame) (q : Gran × Chan) : Prop :=
  (granInfo f.si q.1 q.2).part23Length = 0 ∧ (granInfo f.si q.1 q.2).bigValues = 0 ∧
  (granInfo f.si q.1 q.2).scalefacCompress = 0 ∧ shapeOf (granInfo f.si q.1 q.2) = .long ∧
  true ∉ f.si.scfsi.getD (chanIdx q.2) []

/-- The parts of a silent frame begin at bit 0 (R429). -/
theorem p23start_silent {f : Frame} (h : ∀ q ∈ parts f.nch, SilentPart f q) (g : Gran) (c : Chan) :
    p23start f g c = 0 := by
  refine List.sum_eq_zero fun n hn => ?_
  obtain ⟨q, hq, rfl⟩ := List.mem_map.1 hn
  rw [(h q (List.takeWhile_subset _ hq)).1]
  rfl

/-- Scale factors of no width take no bits. -/
theorem scaleFields_silent (cp : List Bool) : (scaleFields .long cp 0 0).sum = 0 := by
  simp [scaleFields]

theorem fit576_nil : fit576 [] = List.replicate 576 0 := by
  rw [fit576, List.nil_append, List.take_replicate, Nat.min_self]

/-- ScaleFactors of a Long part with scale factors of no width (R428). -/
theorem scaleFactors_silent {s : State} {g : Gran} {c : Chan} (hstart : p23start s.frm g c = 0)
    (hsilent : SilentPart s.frm (g, c)) : ∃ sf, scaleFactors g c s = .ok () { s with
      mdPos := 0, md := s.md.set g c { s.md.get g c with sf, p23start := 0, p2len := 0 } } := by
  obtain ⟨-, -, hwidth, hshape, hnone⟩ := hsilent
  have hslen : (0, 0) = slen (granInfo s.frm.si g c).scalefacCompress := by rw [hwidth]; rfl
  have hparse := partScaleFac_parses (s := s) 0 hslen
  rw [hshape] at hparse
  obtain ⟨sf, hread, -⟩ := hparse.unchecked_ok (by rw [scaleFields_silent]; exact Nat.zero_le _)
  rw [scaleFields_silent] at hread
  have hpart := scaleFactors_ok (copyLegal_of_not_mem fun _ => hnone) (by rw [hstart, Nat.zero_min]) hread
  rw [hstart] at hpart
  exact ⟨sf, hpart⟩

/-- HuffGranule of a part with no big values and no bits: the spectrum is 0 (R353, R360). -/
theorem huffGranule_silent {s : State} {g : Gran} {c : Chan} (hstart : p23start s.frm g c = 0)
    (hsilent : SilentPart s.frm (g, c)) (hp2len : (s.md.get g c).p2len = 0) :
    ∃ d, huffGranule g c s = .ok d { s with
      mdPos := 0
      md := s.md.set g c { s.md.get g c with is := List.replicate 576 0, zpb := 0, count1 := 0 } } := by
  obtain ⟨hbits, hbig, -⟩ := hsilent
  obtain ⟨x, hread, hvals, hkept⟩ := readSpectrum_ok (src := src s .md) (bands := frameBands s)
    (gc := granInfo s.frm.si g c) (p3 := 0) (lim := 0) (p := s.mdPos) (ps := fun _ => 0) (xs := fun _ => (0, 0))
    (m := 0) (stop := 0) (qs := fun _ => 0) (vs := fun _ => []) (Nat.zero_min _).symm (by simp [hbig]) le_rfl rfl nofun
    (.inl ⟨rfl, rfl⟩)
  have hnil : x.vals = [] := by rw [hvals, hbig]; rfl
  have hpart : partSpectrum s g c (src s .md) s.mdPos = .ok x 0 := by
    rw [partSpectrum, hstart, hp2len, hbits]
    exact hread
  have hgran := huffGranule_ok hpart
  rw [hnil, hkept, fit576_nil, List.length_nil, Nat.min_zero] at hgran
  exact ⟨_, hgran⟩

/-- MainData of a silent part: no bits are taken, and the spectrum is 0 (R430, R432). -/
theorem mainPart_silent {s : State} (h : ∀ q ∈ parts s.frm.nch, SilentPart s.frm q) {q : Gran × Chan}
    (hq : q ∈ parts s.frm.nch) : ∃ d sf, mainPart q s = .ok d { s with
      mdPos := 0
      md := s.md.set q.1 q.2 ⟨sf, List.replicate 576 0, 0, 0, 0, 0⟩
      mdst := s.mdst.set q.1 q.2 .huf } := by
  have hstart := p23start_silent h q.1 q.2
  obtain ⟨sf, hscale⟩ := scaleFactors_silent hstart (h q hq)
  obtain ⟨d, hhuf⟩ := huffGranule_silent (s := { s with
      mdPos := 0
      md := s.md.set q.1 q.2 { s.md.get q.1 q.2 with sf, p23start := 0, p2len := 0 }
      mdst := s.mdst.set q.1 q.2 .sf }) hstart (h q hq) (by rw [PerPart.get_set_self])
  refine ⟨d, sf, (mainPart_ok hscale hhuf).trans ?_⟩
  simp only [PerPart.get_set_self, PerPart.set_set]

/-- The part is decoded at bit 0 to a spectrum of zeros (R432). -/
def SilentData (q : Gran × Chan) (s : State) : Prop :=
  s.mdPos = 0 ∧ (s.md.get q.1 q.2).zpb = 0 ∧ (s.md.get q.1 q.2).p2len = 0 ∧
  (s.md.get q.1 q.2).is = List.replicate 576 0

theorem forEach_mainPart_silent {s : State} (h : ∀ q ∈ parts s.frm.nch, SilentPart s.frm q) :
    ∃ ds u, Act.forEach mainPart (parts s.frm.nch) s = .ok ds u ∧ ∀ q ∈ parts s.frm.nch, SilentData q u := by
  have hloop : (Act.forEach mainPart (parts s.frm.nch)).wp
      (fun _ u => u.frm = s.frm ∧ ∀ q ∈ parts s.frm.nch, SilentData q u) (fun _ _ => False) s := by
    refine Act.wp_forEach_each rfl fun q hq t (hfrm : t.frm = s.frm) => ?_
    rw [← hfrm] at h hq
    obtain ⟨d, sf, hpart⟩ := mainPart_silent h hq
    refine (Act.wp_of_ok hpart).2 ⟨hfrm, ?_, fun r ⟨hpos, hr⟩ => ⟨rfl, ?_⟩⟩
    · rw [SilentData, PerPart.get_set_self]
      exact ⟨rfl, rfl, rfl, rfl⟩
    · dsimp only
      rcases PerPart.get_set t.md q.1 r.1 q.2 r.2 _ with ⟨h, -⟩ | ⟨h, -⟩ <;> rw [h]
      · exact ⟨rfl, rfl, rfl⟩
      · exact hr
  rcases Act.wp_cases hloop with ⟨ds, u, hu, -, hdata⟩ | ⟨_, _, _, hno⟩
  · exact ⟨ds, u, hu, hdata⟩
  · exact hno.elim

end Sys2Proof.Machine

namespace Sys2Proof.Proofs

open Sys2Proof.Machine Sys2Proof.Safety

/-- Settles O33: the loop over the parts passes through the states given. -/
theorem maindataDecodesTheParts : Obligations.MaindataDecodesTheParts := by
  intro s st hs hframe hbuf hnch h0 hparts
  obtain ⟨ds, hlen, hloop⟩ := Act.forEach_states (f := mainPart) (is := parts s.frm.nch) (st := st) fun k q hk => by
    obtain ⟨a, b, d, hsf, hhuf, hnext⟩ := hparts k q hk
    exact ⟨d, hnext ▸ mainPart_ok hsf hhuf⟩
  rw [h0, parts_length hnch] at hloop
  rw [parts_length hnch] at hlen
  obtain ⟨hu, hmdst⟩ := forEach_mainPart hloop
  refine ⟨_, if s.cfg.emitIntermediates then ds else [], rfl, hu, hmdst, ?_, exec_maindata_ok hs hframe hbuf hloop⟩
  rw [apply_ite List.length, hlen, List.length_nil]

/-- Settles O34: no part takes a bit, so each begins and ends at bit 0 with an empty spectrum. -/
theorem maindataSilent : Obligations.MaindataSilent := by
  intro s hs hframe hbuf _ hsilent
  obtain ⟨ds, u, hloop, hdata⟩ := forEach_mainPart_silent hsilent
  obtain ⟨hu, hmdst⟩ := forEach_mainPart hloop
  obtain ⟨-, -, -, -, herr⟩ := hu.kept
  have hpos : u.mdPos = 0 := (hdata (.g0, .c0) (mem_parts.2 (mem_chans.2 rfl))).1
  refine ⟨_, exec_maindata_ok hs hframe hbuf hloop, rfl, hpos, herr, rfl, congrArg wordOfNat hpos, fun q hq => ?_⟩
  exact ⟨hmdst q hq, (hdata q hq).2⟩

end Sys2Proof.Proofs

/-! # The requantizer and reorder family, part 1: where a line lies -/

namespace Sys2Proof.Machine

open Sys2Proof.Safety

/-! ## Bands of a rising table -/

/-- In a rising table the line between boundaries `b` and `b + 1` is in band `b` (R463, R464). -/
theorem bandOf_eq {tab : List Nat} {d b i : Nat} (htab : tab.Pairwise (· < ·)) (hlow : tab.getD b d ≤ i)
    (hhigh : i < tab.getD (b + 1) d) : bandOf tab i = b := by
  induction tab generalizing b with
  | nil => exact absurd (hlow.trans_lt hhigh) (lt_irrefl d)
  | cons a l ih =>
    obtain ⟨-, hl⟩ := List.pairwise_cons.1 htab
    cases l with
    | nil =>
      cases b with
      | zero => rfl
      | succ b => exact absurd (hlow.trans_lt hhigh) (lt_irrefl d)
    | cons c l =>
      obtain ⟨hc, -⟩ := List.pairwise_cons.1 hl
      cases b with
      | zero =>
        have hic : i < c := hhigh
        refine List.countP_eq_zero.2 fun t ht => ?_
        rcases List.mem_cons.1 ht with rfl | ht
        · simpa using hic
        · simpa using hic.trans (hc t ht)
      | succ b =>
        have hrest : l.countP (fun t => decide (t ≤ i)) = b := ih hl hlow hhigh
        have hci : c ≤ i := by
          cases b with
          | zero => exact hlow
          | succ b =>
            obtain ⟨t, ht, hti⟩ := List.countP_pos_iff.1 (b.succ_pos.trans_eq hrest.symm)
            exact (hc t ht).le.trans (of_decide_eq_true hti)
        rw [← hrest]
        exact List.countP_cons_of_pos (decide_eq_true hci)

/-- A value between two boundaries lies in one of the bands between them. -/
theorem exists_band {f : Nat → Nat} {m n i : Nat} (hm : f m ≤ i) (hn : i < f n) (hmn : m ≤ n) :
    ∃ b, m ≤ b ∧ b < n ∧ f b ≤ i ∧ i < f (b + 1) := by
  induction n, hmn using Nat.le_induction with
  | base => exact absurd hm hn.not_ge
  | succ n hmn ih =>
    by_cases h : i < f n
    · obtain ⟨b, hmb, hbn, hb⟩ := ih h
      exact ⟨b, hmb, hbn.trans n.lt_succ_self, hb⟩
    · exact ⟨n, hmn, n.lt_succ_self, not_lt.1 h, hn⟩

/-! ## The tables of this hardware -/

/-- The boundaries rise, the short bands from band 3 on begin at line 36 or later, and none goes past line 576. -/
structure BandsRise (bands : Config.Bands) : Prop where
  long : bands.long.Pairwise (· < ·)
  short : bands.short.Pairwise (· < ·)
  fromThree : ∀ b < 13, 3 ≤ b → 12 ≤ sfbSAt bands b
  inside : ∀ b < 13, sfbSAt bands (b + 1) ≤ 192

/-- The short bands fill the block, those from band 3 on the lines from 36 on (R393). -/
structure ShortFill (bands : Config.Bands) : Prop where
  zero : sfbSAt bands 0 = 0
  three : sfbSAt bands 3 = 12
  last : sfbSAt bands 13 = 192

/-- At index 3, which has no table, no list has a boundary. -/
theorem bandsOf_rise {c : Config.Params} (hc : TablesOk c) (rate : BitVec 2) : BandsRise (bandsOf c rate) := by
  obtain ⟨-, -, hbands⟩ := hc
  rw [bandsOf, hbands]
  fin_cases rate <;> exact ⟨by decide, by decide, by decide, by decide⟩

theorem bandsOf_shortFill {c : Config.Params} (hc : TablesOk c) {rate : BitVec 2} (hrate : rate ≠ 3) :
    ShortFill (bandsOf c rate) := by
  obtain ⟨-, -, hbands⟩ := hc
  have hlt : rate.toNat < 3 :=
    (Nat.le_of_lt_succ rate.isLt).lt_of_ne fun h => hrate (BitVec.eq_of_toNat_eq h)
  rw [bandsOf, hbands]
  interval_cases rate.toNat <;> exact ⟨rfl, rfl, rfl⟩

/-! ## Long and short lines -/

theorem isLongLine_iff {shape : Shape} {i : Nat} :
    isLongLine shape i = true ↔ shape = .long ∨ shape = .mixed ∧ i < 36 := by
  cases shape <;> simp [isLongLine]

/-- A part has 13 short bands at most. -/
theorem hasShortBand_lt {shape : Shape} {b : Nat} (h : HasShortBand shape b) : b < 13 := by
  rcases h with ⟨-, h⟩ | ⟨-, -, h⟩ <;> exact h

/-- The short band of a line counts the boundaries up to a third of the line. -/
theorem shortBand_eq_bandOf (bands : Config.Bands) (i : Nat) : shortBand bands i = bandOf bands.short (i / 3) := by
  rw [shortBand, bandOf, bandOf, ← List.map_tail, List.countP_map]
  refine List.countP_congr fun t _ => ?_
  simp only [Function.comp_apply, decide_eq_true_eq]
  omega

section
variable {bands : Config.Bands} (hb : BandsRise bands)
include hb

theorem longBand_eq {shape : Shape} {i b : Nat} (h : InLongBand bands shape i b) : longBand bands i = b := by
  obtain ⟨-, -, hlow, hhigh⟩ := h
  exact bandOf_eq hb.long hlow hhigh

/-- A line between 3 sfbS[b] and 3 sfbS[b+1] is in short band `b` (R464). -/
theorem shortBand_eq {i b : Nat} (hlow : 3 * sfbSAt bands b ≤ i) (hhigh : i < 3 * sfbSAt bands (b + 1)) :
    shortBand bands i = b := by
  rw [shortBand_eq_bandOf]
  refine bandOf_eq hb.short (d := 192) (?_ : sfbSAt bands b ≤ _) (?_ : _ < sfbSAt bands (b + 1)) <;> omega

/-- A line of a short band is no long line, the long lines of a Mixed block being those below 36 (R465). -/
theorem isLongLine_eq_false {shape : Shape} {i b : Nat} (h : HasShortBand shape b) (hi : 3 * sfbSAt bands b ≤ i) :
    isLongLine shape i = false := by
  rcases h with ⟨rfl, -⟩ | ⟨rfl, hthree, hlast⟩
  · rfl
  · have := hb.fromThree b hlast hthree
    exact decide_eq_false (by omega)

variable {shape : Shape} {i b w : Nat} (h : InShortBand bands shape i b w)
include h

/-- A line of window `w` of short band `b` lies between the band's boundaries, inside the block (R464). -/
theorem inShortBand_bounds : 3 * sfbSAt bands b ≤ i ∧ i < 3 * sfbSAt bands (b + 1) ∧ i < 576 := by
  obtain ⟨hband, hw, hlow, hhigh⟩ := h
  have hlast := hb.inside b (hasShortBand_lt hband)
  have hwidth : (w + 1) * bandWidth bands b ≤ 3 * bandWidth bands b := Nat.mul_le_mul_right _ hw
  have hstart := (Nat.le_add_right _ (w * bandWidth bands b)).trans hlow
  have hend := hhigh.trans_le (Nat.add_le_add_left hwidth _)
  rw [bandWidth] at hend
  omega

/-- The model's band and window of a line are those the line lies in (R464). -/
theorem shortBand_window : shortBand bands i = b ∧ (i - shortStart bands b) / shortWidth bands b = w := by
  obtain ⟨hlow, hhigh, -⟩ := inShortBand_bounds hb h
  obtain ⟨-, -, hfirst, hlast⟩ := h
  refine ⟨shortBand_eq hb hlow hhigh, Nat.div_eq_of_lt_le ?_ ?_⟩
  · exact Nat.le_sub_of_add_le' hfirst
  · exact Nat.sub_lt_left_of_lt_add hlow hlast

theorem isLongLine_of_inShortBand : isLongLine shape i = false :=
  isLongLine_eq_false hb h.1 (inShortBand_bounds hb h).1

end

end Sys2Proof.Machine

/-! # The requantizer and reorder family, part 2: REQUANT -/

namespace Sys2Proof.Machine

open Sys2Proof.Safety

/-! ## The formula -/

/-- sign(x) |x|^(4/3) 2^(-step (sf + pt)) 2^((global_gain - 210 - 8 sbg) / 4) over the reals (R460, R461). -/
noncomputable def requantR (gc : GranInfo) (lg : LineGain) (x : ℝ) : ℝ :=
  Real.sign x * |x| ^ ((4 : ℝ) / 3) *
    (2 : ℝ) ^ (-((if gc.scalefacScale then 1 else 1 / 2) * ((lg.sf.toNat : ℝ) + lg.pt))) *
    (2 : ℝ) ^ ((1 / 4 : ℝ) * ((gc.globalGain.toNat : ℝ) - 210 - 8 * (lg.sbg.toNat : ℝ)))

theorem requantR_neg (gc : GranInfo) (lg : LineGain) (x : ℝ) : requantR gc lg (-x) = -requantR gc lg x := by
  simp only [requantR, Real.sign_neg, abs_neg, neg_mul]

/-- The model counts the step in halves (R461). -/
theorem stepHalves_half (gc : GranInfo) : (stepHalves gc : ℝ) / 2 = if gc.scalefacScale then 1 else 1 / 2 := by
  cases h : gc.scalefacScale <;> simp [stepHalves, h]

theorem val_scale (gc : GranInfo) (n : Nat) : (XReal.power 2 (-(stepHalves gc * n : Nat)) 2).val =
    (2 : ℝ) ^ (-((if gc.scalefacScale then 1 else 1 / 2) * (n : ℝ))) := by
  rw [XReal.val_power, ← stepHalves_half]
  push_cast
  ring_nf

theorem val_gain (gain sbg : Nat) : (XReal.power 2 ((gain : Int) - 210 - 8 * sbg) 4).val =
    (2 : ℝ) ^ ((1 / 4 : ℝ) * ((gain : ℝ) - 210 - 8 * (sbg : ℝ))) := by
  rw [XReal.val_power]
  push_cast
  ring_nf

theorem val_magnitude (x : Int) : (XReal.power x.natAbs 4 3).val = |(x : ℝ)| ^ ((4 : ℝ) / 3) := by
  rw [XReal.val_power, Nat.cast_natAbs, Int.cast_abs]
  norm_num

/-- The requantized value is the formula's (R460). -/
theorem requantValue_val (gc : GranInfo) (lg : LineGain) (x : Int) :
    (requantValue gc lg x).val = requantR gc lg x := by
  rcases lt_trichotomy x 0 with hneg | rfl | hpos
  · have hsign : Real.sign (x : ℝ) = -1 := Real.sign_of_neg (Int.cast_lt_zero.2 hneg)
    rw [requantValue, if_neg hneg.ne, if_pos hneg, XReal.val_negate, XReal.val_times, XReal.val_times, val_magnitude,
      val_scale, val_gain, requantR, hsign, Nat.cast_add]
    ring
  · rw [requantValue, if_pos rfl, requantR, Int.cast_zero, Real.sign_zero]
    simp
  · have hsign : Real.sign (x : ℝ) = 1 := Real.sign_of_pos (Int.cast_pos.2 hpos)
    rw [requantValue, if_neg hpos.ne', if_neg hpos.not_gt, XReal.val_times, XReal.val_times, val_magnitude,
      val_scale, val_gain, requantR, hsign, Nat.cast_add, one_mul]

/-! ## The lines and the command -/

/-- The model's gains of a line are those of the band and window it lies in (R463-R465). -/
theorem lineGain_eq {bands : Config.Bands} (hb : BandsRise bands) {gc : GranInfo} {sf : ScaleFac} {i : Nat}
    {lg : LineGain} (h : GainOf bands gc sf i lg) : lineGain bands gc sf i = lg := by
  rcases h with ⟨b, hband, rfl⟩ | ⟨b, w, hband, rfl⟩
  · rw [lineGain, if_pos (isLongLine_iff.2 hband.1), longGain, longBand_eq hb hband]
  · obtain ⟨hband', hwindow⟩ := shortBand_window hb hband
    rw [lineGain, isLongLine_of_inShortBand hb hband, if_neg Bool.false_ne_true, shortGain, hband', hwindow]

/-- REQUANT of a part that is decoded (R466). -/
theorem exec_requant {s : State} {g : Gran} {c : Chan} (hs : PartReady s c) (hmdst : s.mdst.get g c = .huf) :
    exec (.requant g c) s = .next (requant g c s) := by
  obtain ⟨hready, hframe, hchan⟩ := hs
  have hstage : needStage (fun s => decide (s.mdst.get g c = .huf)) s = .ok () s :=
    Act.need_of_true (decide_eq_true hmdst)
  refine command_ok (main := false) (modeRefuses_of_ready hready 0x40) ?_
  rw [Act.bind_of_ok (needPart_ok hframe (chanLegal_of_ne hchan)), Act.bind_of_ok hstage, Act.modify_apply]

end Sys2Proof.Machine

namespace Sys2Proof.Proofs

open Sys2Proof.Machine Sys2Proof.Safety

/-- Settles O35: the model's gains of a line are the statement's, and the value it makes of them is the formula's. -/
theorem requant : Obligations.Requant := by
  intro s g c hs hc hmdst
  refine ⟨requantLines (frameBands s) (partInfo s g c) (s.md.get g c), table_length _ _,
    (exec_requant hs hmdst).trans (congrArg _ (stageDone_eq ..)), fun i hi lg hlg => ?_⟩
  have hgain : lineGain (frameBands s) (partInfo s g c) (s.md.get g c).sf i = lg :=
    lineGain_eq (bandsOf_rise hc _) hlg
  rw [lineR, requantLines, at0_table _ hi, hgain, requantValue_val]
  rfl

/-- Settles O36: of the formula's factors only the sign depends on the sign of `x`. -/
theorem requantIsOdd : Obligations.RequantIsOdd := by
  intro gc lg x
  rw [requantValue_val, requantValue_val, Int.cast_neg, requantR_neg]

end Sys2Proof.Proofs

/-! # The requantizer and reorder family, part 3: REORDER -/

namespace Sys2Proof.Machine

open Sys2Proof.Safety

/-! ## Places and their sources -/

/-- The lines of a block that no short band moves stay (R471). -/
theorem reorderSource_long (bands : Config.Bands) {shape : Shape} {o : Nat} (h : isLongLine shape o = true) :
    reorderSource bands shape o = o := if_pos h

/-- The source by the band of the place and the place's offset in it (R470). -/
theorem reorderSource_short {bands : Config.Bands} {shape : Shape} {b r o : Nat} (h : isLongLine shape o = false)
    (hband : shortBand bands o = b) (hoff : o - 3 * sfbSAt bands b = r) :
    reorderSource bands shape o = 3 * sfbSAt bands b + r % 3 * bandWidth bands b + r / 3 := by
  subst hband hoff
  rw [reorderSource, h, if_neg Bool.false_ne_true]
  rfl

/-- Place `o` is that of line `j` of window `w` of short band `b` (R470). -/
def IsPlace (bands : Config.Bands) (shape : Shape) (b w j o : Nat) : Prop :=
  HasShortBand shape b ∧ w < 3 ∧ j < bandWidth bands b ∧ o = 3 * sfbSAt bands b + 3 * j + w

/-- In Huffman order line `j` of window `w` of short band `b` lies in that window (R464). -/
theorem inShortBand_of_place {bands : Config.Bands} {shape : Shape} {b w j o : Nat} (h : IsPlace bands shape b w j o) :
    InShortBand bands shape (3 * sfbSAt bands b + w * bandWidth bands b + j) b w := by
  obtain ⟨hband, hw, hj, -⟩ := h
  refine ⟨hband, hw, Nat.le_add_right _ _, ?_⟩
  rw [Nat.add_one_mul w, ← Nat.add_assoc]
  exact Nat.add_lt_add_left hj _

/-- Every line that is no long line is a place of a short band (R470, R473). -/
theorem exists_place {bands : Config.Bands} (hfill : ShortFill bands) {shape : Shape} {o : Nat} (ho : o < 576)
    (h : isLongLine shape o = false) : ∃ b w j, IsPlace bands shape b w j o := by
  obtain ⟨b, hband, hlow, hhigh⟩ : ∃ b, HasShortBand shape b ∧ sfbSAt bands b ≤ o / 3 ∧
      o / 3 < sfbSAt bands (b + 1) := by
    have hlast : o / 3 < sfbSAt bands 13 := by
      rw [hfill.last]
      omega
    cases shape with
    | long => cases h
    | short =>
      obtain ⟨b, -, hb, hbetween⟩ := exists_band (hfill.zero.trans_le (Nat.zero_le _)) hlast (by decide)
      exact ⟨b, .inl ⟨rfl, hb⟩, hbetween⟩
    | mixed =>
      have hthree : sfbSAt bands 3 ≤ o / 3 := by
        have := of_decide_eq_false h
        rw [hfill.three]
        omega
      obtain ⟨b, hb3, hb, hbetween⟩ := exists_band hthree hlast (by decide)
      exact ⟨b, .inr ⟨rfl, hb3, hb⟩, hbetween⟩
  refine ⟨b, o % 3, o / 3 - sfbSAt bands b, hband, Nat.mod_lt _ (by decide), ?_, ?_⟩
  · rw [bandWidth]
    omega
  · omega

section
variable {bands : Config.Bands} (hb : BandsRise bands)
include hb

/-- The source of a place in a short band (R470). -/
theorem reorderSource_place {shape : Shape} {b w j o : Nat} (h : IsPlace bands shape b w j o) :
    o < 576 ∧ reorderSource bands shape o = 3 * sfbSAt bands b + w * bandWidth bands b + j := by
  obtain ⟨hband, hw, hj, ho⟩ := h
  have hlow : 3 * sfbSAt bands b ≤ o := by omega
  have hhigh : o < 3 * sfbSAt bands (b + 1) := by
    rw [bandWidth] at hj
    omega
  have hlast := hb.inside b (hasShortBand_lt hband)
  have hoff : o - 3 * sfbSAt bands b = 3 * j + w := by omega
  refine ⟨by omega, ?_⟩
  rw [reorderSource_short (isLongLine_eq_false hb hband hlow) (shortBand_eq hb hlow hhigh) hoff,
    Nat.mul_add_mod, Nat.mod_eq_of_lt hw, Nat.mul_add_div three_pos, Nat.div_eq_of_lt hw, Nat.add_zero]

/-! ## Permutation -/

variable (hfill : ShortFill bands)
include hfill

/-- A source is a line of the block, long just where its place is. -/
theorem reorderSource_lt_and_isLongLine {shape : Shape} {o : Nat} (ho : o < 576) :
    reorderSource bands shape o < 576 ∧ isLongLine shape (reorderSource bands shape o) = isLongLine shape o := by
  cases h : isLongLine shape o with
  | true =>
    rw [reorderSource_long bands h]
    exact ⟨ho, h⟩
  | false =>
    obtain ⟨b, w, j, hplace⟩ := exists_place hfill ho h
    have hline := inShortBand_of_place hplace
    rw [(reorderSource_place hb hplace).2]
    exact ⟨(inShortBand_bounds hb hline).2.2, isLongLine_of_inShortBand hb hline⟩

/-- Two places have two sources: a source has one band and window, and in those one line. -/
theorem reorderSource_injOn {shape : Shape} {o p : Nat} (ho : o < 576) (hp : p < 576)
    (h : reorderSource bands shape o = reorderSource bands shape p) : o = p := by
  have hkind : isLongLine shape o = isLongLine shape p := by
    rw [← (reorderSource_lt_and_isLongLine hb hfill ho).2, h, (reorderSource_lt_and_isLongLine hb hfill hp).2]
  cases hlong : isLongLine shape o with
  | true => rwa [reorderSource_long bands hlong, reorderSource_long bands (hkind ▸ hlong)] at h
  | false =>
    obtain ⟨b, w, j, hplace⟩ := exists_place hfill ho hlong
    obtain ⟨b', w', j', hplace'⟩ := exists_place hfill hp (hkind ▸ hlong)
    rw [(reorderSource_place hb hplace).2, (reorderSource_place hb hplace').2] at h
    obtain ⟨hband, hwindow⟩ := shortBand_window hb (inShortBand_of_place hplace)
    obtain ⟨hband', hwindow'⟩ := shortBand_window hb (inShortBand_of_place hplace')
    rw [h] at hband hwindow
    obtain rfl := hband.symm.trans hband'
    obtain rfl := hwindow.symm.trans hwindow'
    obtain rfl : j = j' := Nat.add_left_cancel h
    obtain ⟨-, -, -, ho⟩ := hplace
    obtain ⟨-, -, -, hp⟩ := hplace'
    exact ho.trans hp.symm

/-- The sources of the 576 places are the 576 lines (R473). -/
theorem reorderSource_perm (shape : Shape) : (table 576 (reorderSource bands shape)).Perm (List.range 576) := by
  have hnodup : (table 576 (reorderSource bands shape)).Nodup :=
    List.nodup_range.map_on fun o ho p hp => reorderSource_injOn hb hfill (List.mem_range.1 ho) (List.mem_range.1 hp)
  refine (hnodup.subperm fun i hi => ?_).perm_of_length_le (by rw [table_length, List.length_range])
  obtain ⟨o, ho, rfl⟩ := List.mem_map.1 hi
  exact List.mem_range.2 (reorderSource_lt_and_isLongLine hb hfill (List.mem_range.1 ho)).1

end

/-- An array is the table of its entries. -/
theorem table_at0 {n : Nat} {x : List XReal} (h : x.length = n) : table n (at0 x) = x := by
  refine List.ext_getElem (by rw [table_length, h]) fun i hi _ => ?_
  rw [table_length] at hi
  simp [table, at0, List.getElem?_eq_getElem (h.symm ▸ hi)]

/-! ## The command -/

/-- REORDER of a part that is requantized (R472). -/
theorem exec_reorder {s : State} {g : Gran} {c : Chan} (hs : PartReady s c) (htag : s.tag.get g c = .req) :
    exec (.reorder g c) s = .next (reorder g c s) := by
  obtain ⟨hready, hframe, hchan⟩ := hs
  exact stage_command (modeRefuses_of_ready hready 0x41) hframe (chanLegal_of_ne hchan) htag

/-- A place takes the line that is its source. -/
theorem at0_reorderLines (bands : Config.Bands) (shape : Shape) (x : List XReal) {o : Nat} (ho : o < 576) :
    at0 (reorderLines bands shape x) o = at0 x (reorderSource bands shape o) := at0_table _ ho

end Sys2Proof.Machine

namespace Sys2Proof.Proofs

open Sys2Proof.Machine Sys2Proof.Safety

/-- Settles O37: each place takes its source, and a long line is its own. -/
theorem reorder : Obligations.Reorder := by
  rintro s g c _ _ hs hc htag rfl rfl
  have hb := bandsOf_rise hc s.frm.hdr.samplingIndex
  refine ⟨reorderLines _ _ (s.xr.get g c), table_length _ _,
    (exec_reorder hs htag).trans (congrArg _ (stageDone_eq ..)), ?_, ?_⟩
  · intro b w j hband hw hj
    obtain ⟨ho, hsource⟩ := reorderSource_place hb ⟨hband, hw, hj, rfl⟩
    exact (at0_reorderLines _ _ _ ho).trans (congrArg _ hsource)
  · intro i hi hlong
    exact (at0_reorderLines _ _ _ hi).trans (congrArg _ (reorderSource_long _ (isLongLine_iff.2 hlong)))

/-- Settles O38: the lines are taken from sources that are the 576 lines in another order. -/
theorem reorderPermutes : Obligations.ReorderPermutes := by
  intro c rate shape x hc hrate hx
  have hperm := (reorderSource_perm (bandsOf_rise hc rate) (bandsOf_shortFill hc hrate) shape).map (at0 x)
  rw [table, List.map_map, ← table, ← table, table_at0 hx] at hperm
  exact hperm

end Sys2Proof.Proofs

/-! # The stereo family, part 1: the unit on one line -/

namespace Sys2Proof.Machine

open Sys2Proof.Safety

/-! ## Intensity stereo -/

theorem isTan_val (p : Nat) : (isTan p).val = Real.tan (p * Real.pi / 12) := by
  rw [isTan, XReal.val_tanPi, Int.cast_natCast, Nat.cast_ofNat, mul_comm]

theorem ratioLeft_val (p : Nat) : (ratioLeft p).val = ratioLR p := by
  unfold ratioLeft ratioLR
  split
  · simp
  · simp [isTan_val]

theorem ratioRight_val (p : Nat) : (ratioRight p).val = ratioRR p := by
  unfold ratioRight ratioRR
  split
  · simp
  · simp [isTan_val]

/-- The angles of the positions up to 6 go from 0 to a right angle, where no tangent is negative. -/
theorem tan_position_nonneg {p : Nat} (hp : p ≤ 6) : 0 ≤ Real.tan (p * Real.pi / 12) := by
  have hp' : (p : ℝ) ≤ 6 := by exact_mod_cast hp
  have hright : (p : ℝ) * Real.pi ≤ 6 * Real.pi := mul_le_mul_of_nonneg_right hp' Real.pi_nonneg
  exact Real.tan_nonneg_of_nonneg_of_le_pi_div_two (by positivity) (by linarith)

/-- The two ratios of a position are shares of one whole (R503, R510). -/
theorem ratioLR_add_ratioRR {p : Nat} (hp : p ≤ 6) : ratioLR p + ratioRR p = 1 := by
  unfold ratioLR ratioRR
  split
  · exact add_zero 1
  · have hden : 1 + Real.tan (p * Real.pi / 12) ≠ 0 :=
      (add_pos_of_pos_of_nonneg one_pos (tan_position_nonneg hp)).ne'
    rw [← add_div, add_comm, div_self hden]

/-- An IS line gives out channel 0's value by the ratios (R508). -/
theorem stereoLine_some (ms : Bool) (p : Nat) (l r : XReal) :
    (stereoLine ms (some p) l r).1.val = l.val * ratioLR p ∧
    (stereoLine ms (some p) l r).2.val = l.val * ratioRR p := by
  rw [← ratioLeft_val, ← ratioRight_val]
  exact ⟨XReal.val_times .., XReal.val_times ..⟩

/-! ## Mid/side -/

/-- A line with MS on that is no IS line gives out sum and difference (R501). -/
theorem stereoLine_ms (m s : XReal) :
    (stereoLine true none m s).1.val = (m.val + s.val) / Real.sqrt 2 ∧
    (stereoLine true none m s).2.val = (m.val - s.val) / Real.sqrt 2 := by
  simp [stereoLine]

theorem ms_sq_add_sq (m s : ℝ) : ((m + s) / Real.sqrt 2) ^ 2 + ((m - s) / Real.sqrt 2) ^ 2 = m ^ 2 + s ^ 2 := by
  rw [div_pow, div_pow, Real.sq_sqrt two_pos.le]
  ring

/-- The sum of sum and difference, scaled twice, is the first value. -/
theorem ms_sum (m s : ℝ) : ((m + s) / Real.sqrt 2 + (m - s) / Real.sqrt 2) / Real.sqrt 2 = m := by
  rw [← add_div, div_div, Real.mul_self_sqrt two_pos.le]
  ring

/-- The difference of sum and difference, scaled twice, is the second value. -/
theorem ms_difference (m s : ℝ) : ((m + s) / Real.sqrt 2 - (m - s) / Real.sqrt 2) / Real.sqrt 2 = s := by
  rw [← sub_div, div_div, Real.mul_self_sqrt two_pos.le]
  ring

/-! ## IS lines -/

theorem isPosition_eq (on : Bool) (z : Nat) (u : StereoUnit) :
    isPosition on z u = if on = true ∧ z ≤ u.hstart ∧ u.pos.toNat ≤ 6 then some u.pos.toNat else none := by
  simp only [isPosition, Bool.and_eq_true, decide_eq_true_eq, and_assoc]

/-- With IS off the unit takes no position from the main data, so that no main data reaches a line (R507, R510). -/
theorem stereoOut_of_isOff {s : State} (h : isOn s.frm.hdr = false) (g : Gran) (i : Nat) :
    stereoOut s g i = stereoLine (msOn s.frm.hdr) none (at0 (s.xr.get g .c0) i) (at0 (s.xr.get g .c1) i) := by
  rw [stereoOut, linePosition, isPosition_eq, if_neg fun ⟨hon, _⟩ => Bool.false_ne_true (h.symm.trans hon)]

/-- The model's unit of a line is that with the start and the position of the band and window the line lies in (R505,
R506). -/
theorem unitOf_eq {bands : Config.Bands} (hb : BandsRise bands) {shape : Shape} {sf : ScaleFac} {i h p : Nat}
    (hu : UnitOf bands shape sf i h p) :
    (unitOf .copyPrev bands shape sf i).hstart = h ∧ (unitOf .copyPrev bands shape sf i).pos.toNat = p := by
  rcases hu with ⟨b, hband, rfl, rfl⟩ | ⟨b, w, j, hband, hw, hj, hi, rfl, rfl⟩
  · rw [unitOf, if_pos (isLongLine_iff.2 hband.1), longUnit, longBand_eq hb hband]
    exact ⟨rfl, rfl⟩
  · have hlow : 3 * sfbSAt bands b ≤ i := by omega
    have hhigh : i < 3 * sfbSAt bands (b + 1) := by
      rw [bandWidth] at hj
      omega
    have hwindow : (i - shortStart bands b) % 3 = w := by
      rw [shortStart]
      omega
    rw [unitOf, isLongLine_eq_false hb hband hlow, if_neg Bool.false_ne_true, shortUnit, shortBand_eq hb hlow hhigh,
      hwindow]
    exact ⟨rfl, rfl⟩

/-- The position of a line by its unit's start and position (R504-R507). -/
theorem linePosition_eq {s : State} (hb : BandsRise (frameBands s)) (hlast : s.cfg.isLastBand = .copyPrev) {g : Gran}
    {i h p : Nat} (hu : UnitOf (frameBands s) (partShape s g s.cfg.isPosChannel)
      (s.md.get g s.cfg.isPosChannel).sf i h p) :
    linePosition s g i =
      if isOn s.frm.hdr = true ∧ (s.md.get g .c1).zpb ≤ h ∧ p ≤ 6 then some p else none := by
  obtain ⟨hstart, hpos⟩ := unitOf_eq hb hu
  rw [linePosition, isPosition_eq, hlast, hstart, hpos]

end Sys2Proof.Machine

/-! # The stereo family, part 2: STEREO -/

namespace Sys2Proof.Machine

open Sys2Proof.Safety

/-! ## A stage that ends for several channels -/

/-- The end of a stage for channels in order: each array and tag is set, and the elements of OUT_INTER come in order. -/
theorem foldl_stageDone (g : Gran) (t : Tag) (x : Chan → List XReal) (l : List Chan) (s : State) :
    l.foldl (fun u c => stageDone g c t (x c) u) s = { s with
      xr := l.foldl (fun y c => y.set g c (x c)) s.xr
      tag := l.foldl (fun y c => y.set g c t) s.tag
      outInter := s.outInter ++ l.flatMap fun c => interOf s g c t (x c) } := by
  induction l generalizing s with
  | nil => simp
  | cons c l ih =>
    rw [List.foldl_cons, ih, stageDone_eq]
    simp [interOf]

theorem PerPart.set_get_self {α : Type} (x : PerPart α) (g : Gran) (c : Chan) : x.set g c (x.get g c) = x := by
  cases g <;> cases c <;> rfl

/-- Setting entries to what they are changes nothing. -/
theorem PerPart.foldl_set_get {α : Type} (x : PerPart α) (g : Gran) (l : List Chan) :
    l.foldl (fun y c => y.set g c (x.get g c)) x = x := by
  induction l with
  | nil => rfl
  | cons c l ih => rw [List.foldl_cons, PerPart.set_get_self, ih]

/-- An entry after all those of some channels of a granule are set to one value. -/
theorem PerPart.get_foldl_set {α : Type} (x : PerPart α) (g g' : Gran) (l : List Chan) (c : Chan) (v : α) :
    (l.foldl (fun y d => y.set g d v) x).get g' c = if g' = g ∧ c ∈ l then v else x.get g' c := by
  induction l generalizing x with
  | nil => simp
  | cons d l ih =>
    rw [List.foldl_cons, ih]
    by_cases h : (g', c) = (g, d)
    · obtain ⟨rfl, rfl⟩ := Prod.mk.inj h
      simp
    · rw [PerPart.get_set_ne x v h]
      simp only [Prod.mk.injEq, not_and] at h
      refine if_congr (and_congr_right fun hg => ?_) rfl rfl
      simp [h hg]

/-! ## The command -/

/-- STEREO of a granule whose channels are all reordered (R511). -/
theorem exec_stereo {s : State} {g : Gran} (hs : Ready s) (hf : s.frmValid = true)
    (htag : ∀ c ∈ chans s.frm.nch, s.tag.get g c = .reord) : exec (.stereo g) s = .next (stereo g s) := by
  have hstage : needStage (fun s => (chans s.frm.nch).all fun c => decide (s.tag.get g c = .reord)) s = .ok () s :=
    Act.need_of_true (List.all_eq_true.2 fun c hc => decide_eq_true (htag c hc))
  refine command_ok (main := false) (modeRefuses_of_ready hs 0x42) ?_
  rw [Act.bind_of_ok (needFrame_ok hf), Act.bind_of_ok hstage, Act.modify_apply]

/-- Neither of two flag bits is set just when the field is 0. -/
theorem flags_eq_false_iff (m : BitVec 2) : (m.getLsbD 1 || m.getLsbD 0) = false ↔ m = 0 := by
  revert m
  decide

/-- Where the unit is the identity (R500). -/
theorem stereoActs_eq_false_iff {f : Frame} :
    stereoActs f = false ↔ f.nch = 1 ∨ f.hdr.mode ≠ 1 ∨ f.hdr.modeExt = 0 := by
  rw [stereoActs, msOn, isOn, ← Bool.and_or_distrib_left, Bool.and_eq_false_iff, Bool.and_eq_false_iff,
    flags_eq_false_iff, decide_eq_false_iff_not, decide_eq_false_iff_not, not_not]

theorem stereoLines_of_not_acts {s : State} (h : stereoActs s.frm = false) (g : Gran) (c : Chan) :
    stereoLines s g c = s.xr.get g c := if_neg (Bool.eq_false_iff.1 h)

/-- Where the unit acts, each line of the two arrays is computed on its own (R509). -/
theorem lineR_stereoLines {s : State} (h : stereoActs s.frm = true) (g : Gran) {i : Nat} (hi : i < 576) :
    lineR (stereoLines s g .c0) i = (stereoOut s g i).1.val ∧
    lineR (stereoLines s g .c1) i = (stereoOut s g i).2.val := by
  unfold stereoLines
  rw [if_pos h, if_pos h, lineR, lineR, at0_table _ hi, at0_table _ hi]
  exact ⟨rfl, rfl⟩

theorem stereoLines_length_of_acts {s : State} (h : stereoActs s.frm = true) (g : Gran) (c : Chan) :
    (stereoLines s g c).length = 576 := by
  unfold stereoLines
  rw [if_pos h]
  cases c <;> exact table_length _ _

/-- With IS off the arrays do not depend on the main data (R510). -/
theorem stereoLines_of_isOff {s : State} (h : isOn s.frm.hdr = false) (g : Gran) (c : Chan) (d : PerPart PartData) :
    stereoLines { s with md := d } g c = stereoLines s g c := by
  have hout : stereoOut { s with md := d } g = stereoOut s g := funext fun i =>
    (stereoOut_of_isOff (s := { s with md := d }) h g i).trans (stereoOut_of_isOff h g i).symm
  unfold stereoLines
  rw [hout]

end Sys2Proof.Machine

namespace Sys2Proof.Proofs

open Sys2Proof.Machine Sys2Proof.Safety

/-- Settles O39: each channel's array is set to itself. -/
theorem stereoIdentity : Obligations.StereoIdentity := by
  intro s g hs hf htag hid
  have hlines := stereoLines_of_not_acts (stereoActs_eq_false_iff.2 hid) g
  refine ⟨(chans s.frm.nch).foldl (fun y c => y.set g c .stereo) s.tag, ?_, ?_, ?_⟩
  · rw [exec_stereo hs hf htag, stereo, foldl_stageDone]
    simp only [hlines, PerPart.foldl_set_get]
  · intro c hc
    rw [PerPart.get_foldl_set, if_pos ⟨rfl, hc⟩]
  · intro g' c hother
    rw [PerPart.get_foldl_set, if_neg fun ⟨hg, hc⟩ => hother.elim (· hg) (· hc)]

/-- Settles O41: MS scales sum and difference by one half twice over, the ratios of IS add up to 1, and with IS off no
position is taken. -/
theorem stereoProperties : Obligations.StereoProperties := by
  refine ⟨fun m s => ?_, fun ms p l r hp => ?_, fun s g c d h => stereoLines_of_isOff h g c d⟩
  · obtain ⟨hsum, hdiff⟩ := stereoLine_ms m s
    obtain ⟨hsum', hdiff'⟩ := stereoLine_ms (stereoLine true none m s).1 (stereoLine true none m s).2
    rw [hsum', hdiff', hsum, hdiff]
    exact ⟨ms_sq_add_sq _ _, ms_sum _ _, ms_difference _ _⟩
  · obtain ⟨hleft, hright⟩ := stereoLine_some ms p l r
    rw [hleft, hright, ← mul_add, ratioLR_add_ratioRR hp, mul_one]

/-- Settles O40: each line takes its unit's position when the unit is eligible, and MS or nothing when it is not. -/
theorem stereoLines : Obligations.StereoLines := by
  intro s g hs hc hf hnch hlast htag0 htag1 hmode hext
  have hacts : stereoActs s.frm = true := by
    refine Bool.of_not_eq_false fun h => ?_
    rcases stereoActs_eq_false_iff.1 h with h | h | h
    · exact absurd (hnch.symm.trans h) (by decide)
    · exact h hmode
    · exact hext h
  have hchans : chans s.frm.nch = [.c0, .c1] := by rw [hnch]; rfl
  have htag : ∀ c ∈ chans s.frm.nch, s.tag.get g c = .reord := by simp [hchans, htag0, htag1]
  refine ⟨_, _, stereoLines_length_of_acts hacts g .c0, stereoLines_length_of_acts hacts g .c1, ?_, ?_⟩
  · rw [exec_stereo hs hf htag, stereo, foldl_stageDone, hchans]
    simp
  · intro i hi h p hu
    obtain ⟨hl, hr⟩ := lineR_stereoLines hacts g hi
    have hon : isOn s.frm.hdr = s.frm.hdr.modeExt.getLsbD 0 := by simp [isOn, hmode]
    have hms : msOn s.frm.hdr = s.frm.hdr.modeExt.getLsbD 1 := by simp [msOn, hmode]
    rw [hl, hr, stereoOut, linePosition_eq (bandsOf_rise hc _) hlast hu, hon, hms]
    split_ifs with his hmid
    · exact stereoLine_some ..
    · rw [hmid]
      exact stereoLine_ms ..
    · rw [Bool.eq_false_of_not_eq_true hmid]
      exact ⟨rfl, rfl⟩

end Sys2Proof.Proofs

/-! # The exceptions family: StageNotReady -/

namespace Sys2Proof.Machine

open Sys2Proof.Safety

/-! ## The checks a command begins with -/

/-- A command whose body raises StageNotReady with nothing written records it and does nothing else (R622, R625). -/
theorem exec_stageNotReady {i : Instr} {main : Bool} {body : Cmd Unit} {s : State} (hs : Ready s)
    (hi : exec i s = command i.opcode main body s) (hbody : body s = .err .stageNotReady s) :
    exec i s = .next (record .stageNotReady .command i.opcode s) :=
  hi.trans (command_err (modeRefuses_of_ready hs i.opcode) hbody)

/-- The commands that need a current frame begin with the check for one (R623, R625). -/
theorem exec_needFrame {i : Instr} (hi : needsFrame i = true) (s : State) :
    ∃ main body, exec i s = command i.opcode main (needFrame.bind body) s := by
  cases hc : channelOf i with
  | some c =>
    obtain ⟨main, body, h⟩ := exec_needPart hc s
    exact ⟨main, _, h.trans (by rw [needPart, Act.bind_assoc])⟩
  | none =>
    cases i with
    | resolve | histPush | maindata | stereo g | reconstruct => exact ⟨_, _, rfl⟩
    | scalefac g c | huffGranule g c | requant g c | reorder g c | antialias g c | hybrid g c | freqinv g c
    | synth g c => exact absurd hc nofun
    | _ => exact absurd hi nofun

section
variable {i : Instr} {main : Bool} {p : State → Bool} {body : Unit → Cmd Unit} {s : State} (hs : Ready s)
  (hf : s.frmValid = true)
include hs hf

/-- A stage precondition that fails after the check for the frame (R623, step 6). -/
theorem exec_frameStage_notReady
    (hi : exec i s = command i.opcode main (needFrame.bind fun _ => (needStage p).bind body) s) (hp : p s = false) :
    exec i s = .next (record .stageNotReady .command i.opcode s) :=
  exec_stageNotReady hs hi ((Act.bind_of_ok (needFrame_ok hf)).trans (Act.bind_of_err (Act.need_of_false hp)))

/-- A stage precondition that fails after the checks for the frame and the channel (R623, step 6). -/
theorem exec_partStage_notReady {c : Chan} (hc : c = .c1 → s.frm.nch ≠ 1)
    (hi : exec i s = command i.opcode main ((needPart c).bind fun _ => (needStage p).bind body) s) (hp : p s = false) :
    exec i s = .next (record .stageNotReady .command i.opcode s) :=
  exec_stageNotReady hs hi ((Act.bind_of_ok (needPart_ok hf (chanLegal_of_ne hc))).trans
    (Act.bind_of_err (Act.need_of_false hp)))

end

/-! ## The copy from granule 0 -/

theorem copyNotReady_iff {s : State} {g : Gran} {c : Chan} :
    copyNotReady s g c = true ↔ copiesGroup s g c ∧ s.mdst.get .g0 c = .none := by
  rw [copyNotReady, Bool.and_eq_true, Bool.and_eq_true, any_id_iff, decide_eq_true_eq, decide_eq_true_eq, copiesGroup]
  cases g with
  | g0 => simp [copyFlags]
  | g1 => simp [copyFlags, and_comm]

/-- ScaleFactors waits for granule 0 before it moves (R625, log 11). -/
theorem scaleFactors_notReady {s : State} {g : Gran} {c : Chan} (h : copyNotReady s g c = true) :
    scaleFactors g c s = .err .stageNotReady s :=
  Act.bind_of_err (Act.need_of_false (congrArg not h))

/-! ## Every command's stage precondition -/

/-- A command whose stage precondition is missing records StageNotReady and does nothing else (R625). -/
theorem exec_of_not_stageHolds {i : Instr} {s : State} (hs : Ready s) (hf : s.frmValid = true)
    (hc : channelOf i = some .c1 → s.frm.nch ≠ 1) (hstage : ¬ StageHolds s i) :
    exec i s = .next (record .stageNotReady .command i.opcode s) := by
  have hchan {c : Chan} (h : channelOf i = some c) : c = .c1 → s.frm.nch ≠ 1 := fun hc1 => hc (hc1 ▸ h)
  cases i with
  | scalefac g c =>
    by_cases hbuf : s.mdbuf = []
    · exact exec_partStage_notReady hs hf (hchan rfl) rfl (by simp [hbuf])
    · refine exec_scalefac_err ⟨hs, hf, hchan rfl⟩ hbuf (scaleFactors_notReady (copyNotReady_iff.2 ?_))
      by_contra hcopy
      exact hstage ⟨hbuf, fun hgroup hnone => hcopy ⟨hgroup, hnone⟩⟩
  | huffGranule g c =>
    refine exec_partStage_notReady hs hf (hchan rfl) rfl (Bool.eq_false_of_not_eq_true fun h => hstage ?_)
    simpa [StageHolds] using h
  | maindata =>
    have hbuf : s.mdbuf = [] := not_not.1 hstage
    exact exec_frameStage_notReady hs hf rfl (by simp [hbuf])
  | requant g c | reorder g c | antialias g c | hybrid g c | freqinv g c | synth g c =>
    exact exec_partStage_notReady hs hf (hchan rfl) rfl (decide_eq_false hstage)
  | stereo g =>
    refine exec_frameStage_notReady hs hf rfl (Bool.eq_false_of_not_eq_true fun h => hstage fun c hc => ?_)
    exact of_decide_eq_true (List.all_eq_true.1 h c hc)
  | reconstruct =>
    refine exec_frameStage_notReady hs hf rfl (Bool.eq_false_of_not_eq_true fun h => hstage ?_)
    obtain ⟨hvalid, htags⟩ := Bool.and_eq_true_iff.1 h
    exact ⟨hvalid, fun g c hc => of_decide_eq_true (List.all_eq_true.1 htags (g, c) (mem_parts.2 hc))⟩
  | _ => exact absurd trivial hstage

end Sys2Proof.Machine

namespace Sys2Proof.Proofs

open Sys2Proof.Machine Sys2Proof.Safety

/-- Settles O6: the check for the frame comes first in every command that needs one, then the stage preconditions, all
before anything is written. -/
theorem stageNotReadyChecks : Obligations.StageNotReadyChecks := by
  intro i s hs hneeds hmissing
  suffices h : exec i s = .next (record .stageNotReady .command i.opcode s) by
    rw [h, record, errWord_command]
    rfl
  rcases hmissing with hframe | ⟨hframe, hchan, hstage⟩
  · obtain ⟨main, body, hi⟩ := exec_needFrame hneeds s
    exact exec_stageNotReady hs hi (Act.bind_of_err (needFrame_err hframe))
  · exact exec_of_not_stageHolds hs hframe hchan hstage

end Sys2Proof.Proofs

/-! # The antialias and hybrid family, part 1: ANTIALIAS -/

namespace Sys2Proof.Machine

open Sys2Proof.Safety

/-! ## The coefficients -/

theorem aaC_val (i : Nat) : (aaC i).val = aaCR i := by
  rw [aaC, XReal.val_div, XReal.val_int, XReal.val_int, aaCoeff, aaCR]
  rcases lt_or_ge i 8 with hi | hi
  · interval_cases i <;> norm_num
  · rw [List.getD_eq_default _ _ hi, List.getD_eq_default _ _ hi]
    norm_num

theorem aaNorm_val (i : Nat) : (aaNorm i).val = Real.sqrt (1 + aaCR i ^ 2) := by
  rw [aaNorm, XReal.val_sqrt, XReal.val_add, XReal.val_mul, XReal.val_int, aaC_val, Int.cast_one, sq]

theorem aaS_val (i : Nat) : (aaS i).val = aaSR i := by
  rw [aaS, XReal.val_div, aaNorm_val, XReal.val_int, Int.cast_one, aaSR]

theorem aaA_val (i : Nat) : (aaA i).val = aaAR i := by rw [aaA, XReal.val_div, aaNorm_val, aaC_val, aaAR]

/-- S_i and A_i are the cosine and the sine of one angle (R541, R544). -/
theorem aaSR_sq_add_aaAR_sq (i : Nat) : aaSR i ^ 2 + aaAR i ^ 2 = 1 := by
  have hpos : 0 < 1 + aaCR i ^ 2 := by positivity
  rw [aaSR, aaAR, div_pow, div_pow, Real.sq_sqrt hpos.le, ← add_div, one_pow, div_self hpos.ne']

/-- A rotation keeps the sum of squares (R544). -/
theorem rotation_sq_add_sq {c s : ℝ} (h : c ^ 2 + s ^ 2 = 1) (x y : ℝ) :
    (x * c - y * s) ^ 2 + (y * c + x * s) ^ 2 = x ^ 2 + y ^ 2 := by
  linear_combination (x ^ 2 + y ^ 2) * h

/-! ## The butterflies -/

/-- Butterfly `i` of boundary `k` is done: it turns lines 18 k - 1 - i and 18 k + i (R542, R543). -/
def IsButterfly (kmax k i : Nat) : Prop := 1 ≤ k ∧ k ≤ kmax ∧ i < 8

/-- No butterfly reaches line `n` (R543). -/
def Untouched (kmax n : Nat) : Prop := ∀ k, 1 ≤ k → k ≤ kmax → n + 8 < 18 * k ∨ 18 * k + 8 ≤ n

section
variable {kmax k i : Nat} (h : IsButterfly kmax k i) (x : List XReal)
include h

theorem antialiasLine_lower : (antialiasLine kmax x (18 * k + i)).val =
    lineR x (18 * k + i) * aaSR i + lineR x (18 * k - 1 - i) * aaAR i := by
  obtain ⟨hk, hkmax, hi⟩ := h
  have hsb : (18 * k + i) / 18 = k := by omega
  have hr : (18 * k + i) % 18 = i := by omega
  rw [antialiasLine, hsb, hr, if_pos ⟨hi, hk, hkmax⟩, XReal.val_plus, XReal.val_times, XReal.val_times, aaS_val,
    aaA_val]
  rfl

theorem antialiasLine_upper : (antialiasLine kmax x (18 * k - 1 - i)).val =
    lineR x (18 * k - 1 - i) * aaSR i - lineR x (18 * k + i) * aaAR i := by
  obtain ⟨hk, hkmax, hi⟩ := h
  have hsb : (18 * k - 1 - i) / 18 + 1 = k := by omega
  have hr : (18 * k - 1 - i) % 18 = 17 - i := by omega
  have hi' : 17 - (17 - i) = i := by omega
  rw [antialiasLine, hsb, hr, hi', if_neg (by omega), if_pos (by omega), XReal.val_minus, XReal.val_times,
    XReal.val_times, aaS_val, aaA_val]
  rfl

end

theorem antialiasLine_untouched {kmax n : Nat} (h : Untouched kmax n) (x : List XReal) :
    antialiasLine kmax x n = at0 x n := by
  have hlower := h (n / 18)
  have hupper := h (n / 18 + 1)
  rw [antialiasLine, if_neg (by omega), if_neg (by omega)]

/-- A line is the lower or the upper end of a butterfly, or no butterfly reaches it. -/
theorem butterfly_cases (kmax n : Nat) :
    (∃ k i, IsButterfly kmax k i ∧ n = 18 * k + i) ∨ (∃ k i, IsButterfly kmax k i ∧ n = 18 * k - 1 - i) ∨
      Untouched kmax n := by
  by_cases hlower : n % 18 < 8 ∧ 1 ≤ n / 18 ∧ n / 18 ≤ kmax
  · exact .inl ⟨n / 18, n % 18, ⟨hlower.2.1, hlower.2.2, hlower.1⟩, by omega⟩
  by_cases hupper : 10 ≤ n % 18 ∧ n / 18 + 1 ≤ kmax
  · exact .inr (.inl ⟨n / 18 + 1, 17 - n % 18, ⟨by omega, hupper.2, by omega⟩, by omega⟩)
  · refine .inr (.inr fun k hk hkmax => ?_)
    by_contra hnear
    obtain hsame | hnext : k = n / 18 ∨ k = n / 18 + 1 := by omega
    · exact hlower (by omega)
    · exact hupper (by omega)

theorem lastBoundary_le (shape : Shape) : lastBoundary shape ≤ 31 := by cases shape <;> decide

theorem lineR_antialiasLines (shape : Shape) (x : List XReal) {n : Nat} (hn : n < 576) :
    lineR (antialiasLines shape x) n = (antialiasLine (lastBoundary shape) x n).val :=
  congrArg XReal.val (at0_table _ hn)

/-- The two ends of a butterfly are lines of the granule. -/
theorem IsButterfly.inside {shape : Shape} {k i : Nat} (h : IsButterfly (lastBoundary shape) k i) :
    18 * k + i < 576 := by
  obtain ⟨-, hkmax, hi⟩ := h
  have := lastBoundary_le shape
  omega

/-! ## Energy -/

/-- The other end of the butterfly that reaches line `n`, the line itself where none does (R542). -/
def butterflyPartner (kmax n : Nat) : Nat :=
  if n % 18 < 8 ∧ 1 ≤ n / 18 ∧ n / 18 ≤ kmax then 36 * (n / 18) - 1 - n
  else if 10 ≤ n % 18 ∧ n / 18 + 1 ≤ kmax then 36 * (n / 18 + 1) - 1 - n
  else n

theorem butterflyPartner_lower {kmax k i : Nat} (h : IsButterfly kmax k i) :
    butterflyPartner kmax (18 * k + i) = 18 * k - 1 - i := by
  obtain ⟨hk, hkmax, hi⟩ := h
  rw [butterflyPartner, if_pos (by omega)]
  omega

theorem butterflyPartner_upper {kmax k i : Nat} (h : IsButterfly kmax k i) :
    butterflyPartner kmax (18 * k - 1 - i) = 18 * k + i := by
  obtain ⟨hk, hkmax, hi⟩ := h
  rw [butterflyPartner, if_neg (by omega), if_pos (by omega)]
  omega

theorem butterflyPartner_untouched {kmax n : Nat} (h : Untouched kmax n) : butterflyPartner kmax n = n := by
  have hlower := h (n / 18)
  have hupper := h (n / 18 + 1)
  rw [butterflyPartner, if_neg (by omega), if_neg (by omega)]

/-- What the butterflies add to the square of line `n`. -/
noncomputable def energyGain (shape : Shape) (x : List XReal) (n : Nat) : ℝ :=
  lineR (antialiasLines shape x) n ^ 2 - lineR x n ^ 2

/-- What one end of a butterfly gains the other loses (R544). -/
theorem energyGain_butterfly {shape : Shape} {k i : Nat} (h : IsButterfly (lastBoundary shape) k i) (x : List XReal) :
    energyGain shape x (18 * k - 1 - i) + energyGain shape x (18 * k + i) = 0 := by
  have hlt := h.inside
  have hturn := rotation_sq_add_sq (aaSR_sq_add_aaAR_sq i) (lineR x (18 * k - 1 - i)) (lineR x (18 * k + i))
  rw [energyGain, energyGain, lineR_antialiasLines _ _ hlt,
    lineR_antialiasLines _ _ (show 18 * k - 1 - i < 576 by omega), antialiasLine_lower h, antialiasLine_upper h]
  linear_combination hturn

theorem energyGain_untouched {shape : Shape} {n : Nat} (h : Untouched (lastBoundary shape) n) (hn : n < 576)
    (x : List XReal) : energyGain shape x n = 0 := by
  rw [energyGain, lineR_antialiasLines _ _ hn, antialiasLine_untouched h]
  exact sub_self _

theorem butterflyPartner_lt (shape : Shape) {n : Nat} (hn : n < 576) :
    butterflyPartner (lastBoundary shape) n < 576 := by
  rcases butterfly_cases (lastBoundary shape) n with ⟨k, i, h, rfl⟩ | ⟨k, i, h, rfl⟩ | h
  · rw [butterflyPartner_lower h]
    omega
  · rw [butterflyPartner_upper h]
    exact h.inside
  · rwa [butterflyPartner_untouched h]

theorem butterflyPartner_butterflyPartner (kmax n : Nat) :
    butterflyPartner kmax (butterflyPartner kmax n) = n := by
  rcases butterfly_cases kmax n with ⟨k, i, h, rfl⟩ | ⟨k, i, h, rfl⟩ | h
  · rw [butterflyPartner_lower h, butterflyPartner_upper h]
  · rw [butterflyPartner_upper h, butterflyPartner_lower h]
  · rw [butterflyPartner_untouched h, butterflyPartner_untouched h]

theorem energyGain_add_partner (shape : Shape) (x : List XReal) {n : Nat} (hn : n < 576) :
    energyGain shape x n + energyGain shape x (butterflyPartner (lastBoundary shape) n) = 0 := by
  rcases butterfly_cases (lastBoundary shape) n with ⟨k, i, h, rfl⟩ | ⟨k, i, h, rfl⟩ | h
  · rw [butterflyPartner_lower h, add_comm, energyGain_butterfly h]
  · rw [butterflyPartner_upper h, energyGain_butterfly h]
  · rw [butterflyPartner_untouched h, energyGain_untouched h hn, add_zero]

/-- The gains cancel in pairs. -/
theorem sum_energyGain (shape : Shape) (x : List XReal) : ∑ n ∈ Finset.range 576, energyGain shape x n = 0 := by
  refine Finset.sum_involution (fun n _ => butterflyPartner (lastBoundary shape) n)
    (fun n hn => energyGain_add_partner shape x (Finset.mem_range.1 hn)) (fun n hn hgain hself => ?_)
    (fun n hn => Finset.mem_range.2 (butterflyPartner_lt shape (Finset.mem_range.1 hn)))
    fun n _ => butterflyPartner_butterflyPartner _ n
  have h := energyGain_add_partner shape x (Finset.mem_range.1 hn)
  rw [hself] at h
  exact hgain (self_eq_neg.1 (eq_neg_of_add_eq_zero_left h))

/-! ## The command -/

/-- ANTIALIAS of a part that has been through STEREO (R543). -/
theorem exec_antialias {s : State} {g : Gran} {c : Chan} (hs : PartReady s c) (htag : s.tag.get g c = .stereo) :
    exec (.antialias g c) s = .next (antialias g c s) := by
  obtain ⟨hready, hframe, hchan⟩ := hs
  exact stage_command (modeRefuses_of_ready hready 0x43) hframe (chanLegal_of_ne hchan) htag

end Sys2Proof.Machine

namespace Sys2Proof.Proofs

open Sys2Proof.Machine Sys2Proof.Safety

/-- Settles O42: the lines at the ends of a butterfly are turned, the others are what they were. -/
theorem antialias : Obligations.Antialias := by
  intro s g c kmax hs htag hkmax
  obtain rfl : kmax = lastBoundary (partShape s g c) := by
    rw [hkmax, partShape, partInfo]
    cases shapeOf (granInfo s.frm.si g c) <;> rfl
  refine ⟨antialiasLines (partShape s g c) (s.xr.get g c), table_length _ _,
    (exec_antialias hs htag).trans (congrArg _ (stageDone_eq ..)), fun k hk hkmax i hi => ?_,
    fun n hn huntouched => ?_⟩
  · have h : IsButterfly (lastBoundary (partShape s g c)) k i := ⟨hk, hkmax, hi⟩
    have hlt := h.inside
    rw [lineR_antialiasLines _ _ hlt, lineR_antialiasLines _ _ (show 18 * k - 1 - i < 576 by omega)]
    exact ⟨antialiasLine_upper h _, antialiasLine_lower h _⟩
  · rw [lineR_antialiasLines _ _ hn, antialiasLine_untouched huntouched]
    rfl

/-- Settles O43: what the lines gain cancels in pairs. -/
theorem antialiasKeepsEnergy : Obligations.AntialiasKeepsEnergy := by
  intro shape x
  have h := sum_energyGain shape x
  simp only [energyGain, Finset.sum_sub_distrib] at h
  exact sub_eq_zero.1 h

end Sys2Proof.Proofs

/-! # The antialias and hybrid family, part 2: HYBRID -/

namespace Sys2Proof.Machine

open Sys2Proof.Safety

/-! ## Windows -/

theorem sin36_val (i : Nat) : (sin36 i).val = sinWin 36 i := by
  rw [sin36, XReal.val_sinPi, sinWin]
  push_cast
  ring_nf

theorem sin12_val (i : Nat) : (sin12 i).val = sinWin 12 i := by
  rw [sin12, XReal.val_sinPi, sinWin]
  push_cast
  ring_nf

theorem win1_val (i : Nat) : (win1 i).val = winR 1 i := by
  rw [win1, winR, if_pos rfl]
  split_ifs with h18
  · exact sin36_val i
  · exact Int.cast_one
  · rw [sin12_val, Nat.cast_sub (not_lt.1 h18), Nat.cast_ofNat]
  · exact Int.cast_zero

theorem win3_val (i : Nat) : (win3 i).val = winR 3 i := by
  have hstop : ¬3 = 1 := by decide
  rw [win3, winR, if_neg hstop, if_pos rfl]
  split_ifs with h6
  · exact Int.cast_zero
  · rw [sin12_val, Nat.cast_sub (not_lt.1 h6), Nat.cast_ofNat]
  · exact Int.cast_one
  · exact sin36_val i

/-- The window of a long transform by the block type (R551, R552). -/
theorem winLong_val (bt : BitVec 2) (i : Nat) : (winLong bt i).val = winR bt.toNat i := by
  unfold winLong
  split
  · next h => rw [h, win1_val]
  · next h => rw [h, win3_val]
  · next h1 h3 => rw [sin36_val, winR, if_neg h1, if_neg h3]

/-! ## Transforms -/

theorem imdct_val {N : Nat} (hN : 2 ∣ N) (X : Nat → XReal) (i : Nat) :
    (imdct N X i).val = imdctR N (fun k => (X k).val) i := by
  have hhalf : ((N / 2 : Nat) : ℝ) = N / 2 := by rw [Nat.cast_div hN two_ne_zero, Nat.cast_ofNat]
  rw [imdct, XReal.val_sum, imdctR]
  refine Finset.sum_congr rfl fun k _ => ?_
  rw [XReal.val_times, XReal.val_cosPi, Int.cast_natCast]
  push_cast [hhalf]
  ring_nf

theorem longZ_val (bt : BitVec 2) (x : List XReal) (sb i : Nat) : (longZ bt x sb i).val = longR bt.toNat x sb i := by
  rw [longZ, XReal.val_times, imdct_val (by decide), winLong_val]
  rfl

theorem shortPart_val (x : List XReal) (sb w i : Nat) : (shortPart x sb w i).val =
    if 6 + 6 * w ≤ i ∧ i < 18 + 6 * w then
      imdctR 12 (fun k => lineR x (18 * sb + 3 * k + w)) (i - (6 + 6 * w)) * sinWin 12 ((i - (6 + 6 * w) : Nat) : ℝ)
    else 0 := by
  rw [shortPart]
  split_ifs
  · rw [XReal.val_times, imdct_val (by decide), sin12_val]
    rfl
  · exact Int.cast_zero

theorem shortZ_val (x : List XReal) (sb i : Nat) : (shortZ x sb i).val = shortR x sb i :=
  (XReal.val_sum 3 _).trans (Finset.sum_congr rfl fun w _ => shortPart_val x sb w i)

/-- The transform of a subband by the part's shape and block type (R552). -/
theorem hybridZ_val (shape : Shape) (bt : BitVec 2) (x : List XReal) (sb i : Nat) :
    (hybridZ shape bt x sb i).val = hybridR shape bt.toNat x sb i := by
  cases shape with
  | long => exact longZ_val ..
  | short => exact shortZ_val ..
  | mixed =>
    rw [hybridZ, hybridR]
    split_ifs
    · exact longZ_val ..
    · exact shortZ_val ..

/-! ## Outputs and carry -/

section
variable (shape : Shape) (bt : BitVec 2) (x : List XReal) {sb i : Nat} (hsb : sb < 32) (hi : i < 18)
include hsb hi

theorem lineR_hybridOut (ovl : List (List XReal)) : lineR (hybridOut shape bt x ovl) (18 * sb + i) =
    hybridR shape bt.toNat x sb i + lineR (ovl.getD sb []) i := by
  have hdiv : (18 * sb + i) / 18 = sb := by omega
  have hmod : (18 * sb + i) % 18 = i := by omega
  rw [lineR, hybridOut, at0_table _ (by omega), hdiv, hmod, XReal.val_plus, hybridZ_val]
  rfl

theorem lineR_hybridTail : lineR ((hybridTail shape bt x).getD sb []) i = hybridR shape bt.toNat x sb (18 + i) := by
  rw [hybridTail, table_getD _ _ hsb, lineR, at0_table _ hi, hybridZ_val]

end

/-! ## The command -/

/-- HYBRID of a part that has been through ANTIALIAS (R557). -/
theorem exec_hybrid {s : State} {g : Gran} {c : Chan} (hs : PartReady s c) (htag : s.tag.get g c = .aa) :
    exec (.hybrid g c) s = .next (hybrid g c s) := by
  obtain ⟨hready, hframe, hchan⟩ := hs
  exact stage_command (modeRefuses_of_ready hready 0x44) hframe (chanLegal_of_ne hchan) htag

end Sys2Proof.Machine

namespace Sys2Proof.Proofs

open Sys2Proof.Machine Sys2Proof.Safety

/-- Settles O44: each entry of the transform is the formula's, the heads take the carry and the tails become it. -/
theorem hybrid : Obligations.Hybrid := by
  rintro s g c _ _ hs htag rfl rfl
  obtain ⟨hlen, hrows⟩ := hybridTail_sized (partShape s g c) (partInfo s g c).blockType (s.xr.get g c)
  refine ⟨hybridOut _ _ (s.xr.get g c) (s.ovl.get c), _, table_length _ _, hlen, hrows,
    (exec_hybrid hs htag).trans (congrArg _ (stageDone_eq ..)), fun sb hsb i hi => ⟨?_, ?_⟩⟩
  · exact lineR_hybridOut _ _ _ hsb hi _
  · exact lineR_hybridTail _ _ _ hsb hi

end Sys2Proof.Proofs

/-! # The synthesis family, part 1: FREQINV -/

namespace Sys2Proof.Machine

open Sys2Proof.Safety

/-- The inverted lines are those with an odd subband and an odd sample (R580). -/
theorem lineR_freqInvLines (x : List XReal) {n : Nat} (hn : n < 576) : lineR (freqInvLines x) n =
    if n / 18 % 2 = 1 ∧ n % 18 % 2 = 1 then -lineR x n else lineR x n := by
  rw [lineR, freqInvLines, at0_table _ hn, apply_ite XReal.val, XReal.val_negate]
  rfl

/-- FREQINV of a part that has been through HYBRID (R581). -/
theorem exec_freqinv {s : State} {g : Gran} {c : Chan} (hs : PartReady s c) (htag : s.tag.get g c = .hyb) :
    exec (.freqinv g c) s = .next (freqInv g c s) := by
  obtain ⟨hready, hframe, hchan⟩ := hs
  exact stage_command (modeRefuses_of_ready hready 0x45) hframe (chanLegal_of_ne hchan) htag

end Sys2Proof.Machine

namespace Sys2Proof.Proofs

open Sys2Proof.Machine Sys2Proof.Safety

/-- Settles O45: the same lines are negated each time, and a negation undoes itself. -/
theorem freqinv : Obligations.Freqinv := by
  refine ⟨fun s g c hs htag => ?_, fun x n hn => ?_⟩
  · refine ⟨freqInvLines (s.xr.get g c), table_length _ _,
      (exec_freqinv hs htag).trans (congrArg _ (stageDone_eq ..)), fun sb hsb i hi => ?_⟩
    have hdiv : (18 * sb + i) / 18 = sb := by omega
    have hmod : (18 * sb + i) % 18 = i := by omega
    rw [lineR_freqInvLines _ (by omega), hdiv, hmod]
  · rw [lineR_freqInvLines _ hn, lineR_freqInvLines _ hn]
    split_ifs
    · exact neg_neg _
    · rfl

end Sys2Proof.Proofs

/-! # The synthesis family, part 2: SYNTH -/

namespace Sys2Proof.Machine

open Sys2Proof.Safety

/-! ## Matrixing -/

theorem gather_val (mask : Word) (x : List XReal) (ss k : Nat) :
    (gather mask x ss k).val = if mask.getLsbD k then lineR x (18 * k + ss) else 0 := by
  rw [gather, apply_ite XReal.val, XReal.val_int, Int.cast_zero]
  rfl

theorem synthN_val (i k : Nat) : (synthN i k).val = Real.cos ((16 + i) * (2 * k + 1) * Real.pi / 64) := by
  rw [synthN, XReal.val_cosPi]
  push_cast
  ring_nf

/-- An entry of V (R583). -/
theorem lineR_matrixing (S : Nat → XReal) {i : Nat} (hi : i < 64) : lineR (matrixing S) i =
    ∑ k ∈ Finset.range 32, Real.cos ((16 + i) * (2 * k + 1) * Real.pi / 64) * (S k).val := by
  rw [lineR, matrixing, at0_table _ hi, XReal.val_sum]
  refine Finset.sum_congr rfl fun k _ => ?_
  rw [XReal.val_times, synthN_val]

/-! ## Windowing -/

/-- The terms of a sum taken in pairs. -/
theorem sum_range_two_mul (f : Nat → ℝ) (n : Nat) :
    ∑ i ∈ Finset.range (2 * n), f i = ∑ i ∈ Finset.range n, (f (2 * i) + f (2 * i + 1)) := by
  induction n with
  | zero => rfl
  | succ n ih => rw [Nat.mul_succ, Finset.sum_range_succ, Finset.sum_range_succ, ih, Finset.sum_range_succ, add_assoc]

section
variable (vh : List (List XReal)) (i : Nat) {j : Nat} (hj : j < 32)
include hj

/-- The first half of 64 entries of W is the even slot's (R586). -/
theorem windowed_even_val : (windowed vh (j + 32 * (2 * i))).val =
    lineR (vh.getD (2 * i) []) j * Config.synthD (64 * i + j) := by
  have hn : j + 32 * (2 * i) = 64 * i + j := by omega
  have hdiv : (64 * i + j) / 64 = i := by omega
  have hmod : (64 * i + j) % 64 = j := by omega
  rw [hn, windowed, XReal.val_times, interleaved, hdiv, hmod, if_pos hj]
  rfl

/-- The second half of 64 entries of W is the odd slot's (R586). -/
theorem windowed_odd_val : (windowed vh (j + 32 * (2 * i + 1))).val =
    lineR (vh.getD (2 * i + 1) []) (32 + j) * Config.synthD (64 * i + 32 + j) := by
  have hn : j + 32 * (2 * i + 1) = 64 * i + 32 + j := by omega
  have hdiv : (64 * i + 32 + j) / 64 = i := by omega
  have hmod : (64 * i + 32 + j) % 64 = 32 + j := by omega
  rw [hn, windowed, XReal.val_times, interleaved, hdiv, hmod, if_neg (by omega)]
  rfl

/-- A sample of a position (R586). -/
theorem lineR_windowSum : lineR (windowSum vh) j = ∑ i ∈ Finset.range 8,
    (lineR (vh.getD (2 * i) []) j * Config.synthD (64 * i + j) +
      lineR (vh.getD (2 * i + 1) []) (32 + j) * Config.synthD (64 * i + 32 + j)) := by
  rw [lineR, windowSum, at0_table _ hj, XReal.val_sum]
  refine (sum_range_two_mul _ 8).trans (Finset.sum_congr rfl fun i _ => ?_)
  rw [windowed_even_val vh i hj, windowed_odd_val vh i hj]

end

/-! ## The positions in order -/

/-- The history after the first `n` positions (R585). -/
def historyAt (mask : Word) (x : List XReal) (vh : List (List XReal)) : Nat → List (List XReal)
  | 0 => vh
  | n + 1 => pushV (historyAt mask x vh n) (matrixing (gather mask x n))

/-- Positions from `a` on leave the history after them and the window sums over the histories between (R582-R586). -/
theorem synthFrom_eq (mask : Word) (x : List XReal) (vh : List (List XReal)) (a n : Nat) :
    synthFrom mask x (List.range' a n) (historyAt mask x vh a) = (historyAt mask x vh (a + n),
      (List.range' a n).flatMap fun ss => windowSum (historyAt mask x vh (ss + 1))) := by
  induction n generalizing a with
  | zero => rfl
  | succ n ih =>
    have h := ih (a + 1)
    rw [historyAt] at h
    rw [List.range'_succ, synthFrom, h, Nat.add_right_comm]
    rfl

/-- An entry of rows of one length put in a row. -/
theorem at0_flatMap_range' {f : Nat → List XReal} {m : Nat} (hf : ∀ i, (f i).length = m) {a n k j : Nat}
    (hk : k < n) (hj : j < m) : at0 ((List.range' a n).flatMap f) (m * k + j) = at0 (f (a + k)) j := by
  induction n generalizing a k with
  | zero => exact absurd hk (Nat.not_lt_zero k)
  | succ n ih =>
    rw [List.range'_succ, List.flatMap_cons, at0]
    cases k with
    | zero =>
      rw [Nat.mul_zero, Nat.zero_add, List.getD_append _ _ _ _ (by rwa [hf])]
      rfl
    | succ k =>
      rw [List.getD_append_right _ _ _ _ (by rw [hf, Nat.mul_succ]; omega), hf]
      have hsub : m * (k + 1) + j - m = m * k + j := by rw [Nat.mul_succ]; omega
      rw [hsub, ← at0, ih (Nat.lt_of_succ_lt_succ hk), Nat.add_assoc, Nat.add_comm 1 k]

theorem clipped_eq (c : Config.PcmClip) (v : XReal) : clipped c v = v := by
  cases c
  rfl

/-- The samples SYNTH makes of the 18 positions, in order (R589). -/
def synthPcm (mask : Word) (x : List XReal) (vh : List (List XReal)) : List XReal :=
  (List.range' 0 18).flatMap fun ss => windowSum (historyAt mask x vh (ss + 1))

theorem synthFrom_all (mask : Word) (x : List XReal) (vh : List (List XReal)) :
    synthFrom mask x (List.range 18) vh = (historyAt mask x vh 18, synthPcm mask x vh) := by
  rw [List.range_eq_range']
  exact synthFrom_eq mask x vh 0 18

theorem synthPcm_length (mask : Word) (x : List XReal) (vh : List (List XReal)) :
    (synthPcm mask x vh).length = 576 := by
  have h := synthFrom_length mask x (List.range 18) vh
  rwa [synthFrom_all, List.length_range] at h

/-- A sample of a position is a window sum over the history with that position pushed (R586). -/
theorem lineR_synthPcm (mask : Word) (x : List XReal) (vh : List (List XReal)) {ss j : Nat} (hss : ss < 18)
    (hj : j < 32) : lineR (synthPcm mask x vh) (32 * ss + j) = lineR (windowSum (historyAt mask x vh (ss + 1))) j := by
  have hlen (i : Nat) : (windowSum (historyAt mask x vh (i + 1))).length = 32 := table_length _ _
  rw [lineR, synthPcm, at0_flatMap_range' hlen hss hj, Nat.zero_add]
  rfl

/-- SYNTH leaves the history after 18 positions and gives their samples, unclipped (R588, R589). -/
theorem synth_eq (g : Gran) (c : Chan) (s : State) : synth g c s =
    stageDone g c .syn (synthPcm s.bandMask (s.xr.get g c) (s.vh.get c)) { s with
      vh := s.vh.set c (historyAt s.bandMask (s.xr.get g c) (s.vh.get c) 18)
      outPcm := s.outPcm.set c (s.outPcm.get c ++ synthPcm s.bandMask (s.xr.get g c) (s.vh.get c)) } := by
  have hclip : clipped s.cfg.pcmClip = id := funext (clipped_eq _)
  rw [synth, synthFrom_all, hclip, List.map_id]

/-! ## The command -/

/-- SYNTH of a part that has been through FREQINV (R589). -/
theorem exec_synth {s : State} {g : Gran} {c : Chan} (hs : PartReady s c) (htag : s.tag.get g c = .fi) :
    exec (.synth g c) s = .next (synth g c s) := by
  obtain ⟨hready, hframe, hchan⟩ := hs
  exact stage_command (modeRefuses_of_ready hready 0x46) hframe (chanLegal_of_ne hchan) htag

end Sys2Proof.Machine

namespace Sys2Proof.Proofs

open Sys2Proof.Machine Sys2Proof.Safety

/-- Settles O46: the history takes the 18 positions one by one, and each position's samples are the window sums over the
history it leaves. -/
theorem synth : Obligations.Synth := by
  intro s g c hs htag
  refine ⟨synthPcm s.bandMask (s.xr.get g c) (s.vh.get c), fun ss => matrixing (gather s.bandMask (s.xr.get g c) ss),
    historyAt s.bandMask (s.xr.get g c) (s.vh.get c), synthPcm_length .., ?_, rfl, fun ss hss =>
    ⟨rfl, table_length _ _, fun i hi => ?_, fun j hj => ?_⟩⟩
  · rw [exec_synth hs htag, synth_eq, stageDone_eq]
    rfl
  · rw [lineR_matrixing _ hi]
    simp only [gather_val]
  · rw [lineR_synthPcm _ _ _ hss hj, lineR_windowSum _ hj]

end Sys2Proof.Proofs

/-! # The synthesis family, part 3: RECONSTRUCT -/

namespace Sys2Proof.Machine

open Sys2Proof.Safety

/-! ## What the chain keeps -/

section
variable {s t : State} (h : ChainOnly s t)
include h

theorem ChainOnly.frm : t.frm = s.frm := by rw [h]
theorem ChainOnly.frmValid : t.frmValid = s.frmValid := by rw [h]
theorem ChainOnly.mode : t.mode = s.mode := by rw [h]
theorem ChainOnly.md : t.md = s.md := by rw [h]
theorem ChainOnly.mdst : t.mdst = s.mdst := by rw [h]
theorem ChainOnly.err : t.err = s.err := by rw [h]
theorem ChainOnly.result1 : t.result1 = s.result1 := by rw [h]

theorem ChainOnly.ready (hs : Ready s) : Ready t := by rwa [Ready, h.mode]

theorem ChainOnly.partReady {c : Chan} (hs : PartReady s c) : PartReady t c := by
  obtain ⟨hready, hframe, hchan⟩ := hs
  exact ⟨h.ready hready, h.frmValid.trans hframe, h.frm ▸ hchan⟩

end

/-! ## Tags -/

@[simp] theorem stageDone_tag (g : Gran) (c : Chan) (t : Tag) (x : List XReal) (s : State) :
    (stageDone g c t x s).tag = s.tag.set g c t := by rw [stageDone_eq]

theorem stagesBefore_tag (g : Gran) (s : State) (c : Chan) : (stagesBefore g s c).tag = s.tag.set g c .reord := by
  simp [stagesBefore, reorder, requant]

theorem stagesAfter_tag (g : Gran) (s : State) (c : Chan) : (stagesAfter g s c).tag = s.tag.set g c .syn := by
  simp [stagesAfter, synth, freqInv, hybrid, antialias]

/-- Stages that end with one tag, run for channels in order. -/
theorem foldl_tag {f : State → Chan → State} {g : Gran} {v : Tag} (hf : ∀ s c, (f s c).tag = s.tag.set g c v)
    (l : List Chan) (s : State) (g' : Gran) (c : Chan) :
    (l.foldl f s).tag.get g' c = if g' = g ∧ c ∈ l then v else s.tag.get g' c := by
  have h : (l.foldl f s).tag = l.foldl (fun y d => y.set g d v) s.tag := by
    induction l generalizing s with
    | nil => rfl
    | cons d l ih => rw [List.foldl_cons, ih, hf]; rfl
  rw [h, PerPart.get_foldl_set]

theorem stereo_tag (g : Gran) (s : State) (g' : Gran) (c : Chan) : (stereo g s).tag.get g' c =
    if g' = g ∧ c ∈ chans s.frm.nch then .stereo else s.tag.get g' c :=
  foldl_tag (fun _ _ => stageDone_tag _ _ _ _ _) _ s g' c

theorem stereo_chainOnly (g : Gran) (s : State) : ChainOnly s (stereo g s) :=
  foldl_chainOnly (fun t c => stageDone_chainOnly g c .stereo _ t) _ s

/-- A granule is reconstructed to its end, the other granule's tags stay (R57, R590). -/
theorem reconstructGran_tag (g : Gran) (s : State) (g' : Gran) (c : Chan) : (reconstructGran g s).tag.get g' c =
    if g' = g ∧ c ∈ chans s.frm.nch then .syn else s.tag.get g' c := by
  have hfrm : ((chans s.frm.nch).foldl (stagesBefore g) s).frm = s.frm :=
    (foldl_chainOnly (stagesBefore_chainOnly g) _ s).frm
  rw [reconstructGran, foldl_tag (stagesAfter_tag g), stereo_tag, foldl_tag (stagesBefore_tag g), hfrm]
  split_ifs <;> rfl

/-- Every part of the frame is reconstructed to its end (R590). -/
theorem reconstruct_tag {s : State} {q : Gran × Chan} (hq : q ∈ parts s.frm.nch) :
    (reconstruct s).tag.get q.1 q.2 = .syn := by
  have hc := mem_parts.1 hq
  obtain ⟨g, c⟩ := q
  rw [reconstruct, reconstructGran_tag, reconstructGran_tag, (reconstructGran_chainOnly .g0 s).frm]
  cases g <;> simp [hc]

/-! ## Channels the frame does not have -/

/-- The samples and the carry arrays of a channel (R58-R60). -/
def channelCarry (s : State) (c : Chan) : List XReal × List (List XReal) × List (List XReal) :=
  (s.outPcm.get c, s.ovl.get c, s.vh.get c)

@[simp] theorem stageDone_channelCarry (g : Gran) (c : Chan) (t : Tag) (x : List XReal) (s : State) :
    channelCarry (stageDone g c t x s) = channelCarry s := by rw [stageDone_eq]; rfl

theorem stagesBefore_channelCarry (g : Gran) (s : State) (c : Chan) :
    channelCarry (stagesBefore g s c) = channelCarry s := by simp [stagesBefore, reorder, requant]

/-- The stages after STEREO write the carry of their own channel only (R58, R59). -/
theorem stagesAfter_channelCarry (g : Gran) (s : State) {c d : Chan} (h : d ≠ c) :
    channelCarry (stagesAfter g s c) d = channelCarry s d := by
  simp [stagesAfter, synth, freqInv, hybrid, antialias, channelCarry, PerChan.get_set_ne, h, stageDone_eq]

theorem foldl_channelCarry {f : State → Chan → State} {d : Chan} {l : List Chan}
    (hf : ∀ s, ∀ c ∈ l, channelCarry (f s c) d = channelCarry s d) (s : State) :
    channelCarry (l.foldl f s) d = channelCarry s d := by
  induction l generalizing s with
  | nil => rfl
  | cons c l ih =>
    exact (ih (fun s b hb => hf s b (List.mem_cons_of_mem c hb)) _).trans (hf s c List.mem_cons_self)

/-- A channel that the frame does not have keeps its samples and its carry (R48, R590). -/
theorem reconstructGran_channelCarry (g : Gran) {s : State} {d : Chan} (hd : d ∉ chans s.frm.nch) :
    channelCarry (reconstructGran g s) d = channelCarry s d := by
  rw [reconstructGran, foldl_channelCarry fun s c hc => stagesAfter_channelCarry g s (ne_of_mem_of_not_mem hc hd).symm,
    stereo, foldl_channelCarry fun _ _ _ => congrFun (stageDone_channelCarry ..) d,
    foldl_channelCarry fun _ _ _ => congrFun (stagesBefore_channelCarry ..) d]

theorem reconstruct_channelCarry {s : State} {d : Chan} (hd : d ∉ chans s.frm.nch) :
    channelCarry (reconstruct s) d = channelCarry s d := by
  have hd' : d ∉ chans (reconstructGran .g0 s).frm.nch := by rwa [(reconstructGran_chainOnly .g0 s).frm]
  exact (reconstructGran_channelCarry .g1 hd').trans (reconstructGran_channelCarry .g0 hd)

/-! ## The unit commands one after another -/

theorem runAll_cons {i : Instr} {is : List Instr} {s t : State} (h : exec i s = .next t) :
    runAll (i :: is) s = runAll is t := by rw [runAll, h]

theorem runAll_append {is js : List Instr} {s t : State} (h : runAll is s = some t) :
    runAll (is ++ js) s = runAll js t := by
  induction is generalizing s with
  | nil => obtain rfl := Option.some.inj h; rfl
  | cons i is ih =>
    obtain ⟨u, hu⟩ := exec_next i s
    rw [runAll_cons hu] at h
    rw [List.cons_append, runAll_cons hu, ih h]

/-- Commands run for channels in order do what a function does for each, where it leaves the other channels' parts
ready. -/
theorem runAll_flatMap {cmds : Chan → List Instr} {f : State → Chan → State} {P : State → Chan → Prop}
    (hrun : ∀ s c, P s c → runAll (cmds c) s = some (f s c)) (hkeep : ∀ s c d, d ≠ c → P s d → P (f s c) d)
    {l : List Chan} (hl : l.Nodup) {s : State} (hs : ∀ c ∈ l, P s c) :
    runAll (l.flatMap cmds) s = some (l.foldl f s) := by
  induction l generalizing s with
  | nil => rfl
  | cons c l ih =>
    obtain ⟨hc, hl⟩ := List.nodup_cons.1 hl
    rw [List.flatMap_cons, runAll_append (hrun s c (hs c List.mem_cons_self)), List.foldl_cons]
    exact ih hl fun d hd => hkeep s c d (fun h => hc (h ▸ hd)) (hs d (List.mem_cons_of_mem c hd))

theorem chans_nodup (nch : Nat) : (chans nch).Nodup := by
  unfold chans
  split_ifs <;> decide

/-- A part whose main data is decoded, in a mode that accepts unit commands. -/
def DecodedPart (g : Gran) (s : State) (c : Chan) : Prop := PartReady s c ∧ s.mdst.get g c = .huf

theorem ChainOnly.decodedPart {s t : State} (h : ChainOnly s t) {g : Gran} {c : Chan} (hs : DecodedPart g s c) :
    DecodedPart g t c := ⟨h.partReady hs.1, by rw [h.mdst, hs.2]⟩

/-- A part that has been through STEREO, in a mode that accepts unit commands. -/
def StereoPart (g : Gran) (s : State) (c : Chan) : Prop := PartReady s c ∧ s.tag.get g c = .stereo

/-- REQUANT and REORDER of a decoded part (R590). -/
theorem runAll_stagesBefore {g : Gran} {s : State} {c : Chan} (hs : DecodedPart g s c) :
    runAll [.requant g c, .reorder g c] s = some (stagesBefore g s c) := by
  obtain ⟨hready, hmdst⟩ := hs
  have hreq : ChainOnly s (requant g c s) := stageDone_chainOnly g c .req _ s
  rw [runAll_cons (exec_requant hready hmdst), runAll_cons (exec_reorder (hreq.partReady hready) (by simp [requant]))]
  rfl

/-- The four stages after STEREO, each on what the one before left (R590). -/
theorem runAll_stagesAfter {g : Gran} {s : State} {c : Chan} (hs : StereoPart g s c) :
    runAll [.antialias g c, .hybrid g c, .freqinv g c, .synth g c] s = some (stagesAfter g s c) := by
  obtain ⟨hready, htag⟩ := hs
  have haa : ChainOnly s (antialias g c s) := stageDone_chainOnly g c .aa _ s
  have hhyb := haa.trans (hybrid_chainOnly g c _)
  have hfi : ChainOnly s (freqInv g c (hybrid g c (antialias g c s))) := hhyb.trans (stageDone_chainOnly g c .fi _ _)
  rw [runAll_cons (exec_antialias hready htag),
    runAll_cons (exec_hybrid (haa.partReady hready) (by simp [antialias])),
    runAll_cons (exec_freqinv (hhyb.partReady hready) (by simp [hybrid])),
    runAll_cons (exec_synth (hfi.partReady hready) (by simp [freqInv]))]
  rfl

/-- The commands before STEREO, for the channels in order (R590). -/
theorem runAll_chans_before {g : Gran} {s : State} {nch : Nat} (hs : ∀ c ∈ chans nch, DecodedPart g s c) :
    runAll ((chans nch).flatMap fun c => [.requant g c, .reorder g c]) s =
      some ((chans nch).foldl (stagesBefore g) s) :=
  runAll_flatMap (P := DecodedPart g) (fun _ _ => runAll_stagesBefore)
    (fun u c _ _ => (stagesBefore_chainOnly g u c).decodedPart) (chans_nodup nch) hs

/-- The commands after STEREO, for the channels in order: a channel's stages leave the other's tag (R590). -/
theorem runAll_chans_after {g : Gran} {s : State} {nch : Nat} (hs : ∀ c ∈ chans nch, StereoPart g s c) :
    runAll ((chans nch).flatMap fun c => [.antialias g c, .hybrid g c, .freqinv g c, .synth g c]) s =
      some ((chans nch).foldl (stagesAfter g) s) := by
  refine runAll_flatMap (P := StereoPart g) (fun _ _ => runAll_stagesAfter) (fun u c d hne ⟨hready, htag⟩ => ?_)
    (chans_nodup nch) hs
  refine ⟨(stagesAfter_chainOnly g u c).partReady hready, ?_⟩
  rw [stagesAfter_tag, PerPart.get_set_ne _ _ fun h => hne (Prod.mk.inj h).2, htag]

/-- The unit commands of a granule whose parts are decoded do what RECONSTRUCT does for it (R590). -/
theorem runAll_granuleChain {g : Gran} {s : State} (hs : Ready s) (hf : s.frmValid = true)
    (hdecoded : ∀ c ∈ chans s.frm.nch, s.mdst.get g c = .huf) :
    runAll (granuleChain s.frm.nch g) s = some (reconstructGran g s) := by
  have hpart (c : Chan) (hc : c ∈ chans s.frm.nch) : PartReady s c :=
    ⟨hs, hf, by rintro rfl; simpa [chanLegal] using mem_chans.1 hc⟩
  have hbefore := runAll_chans_before fun c hc => ⟨hpart c hc, hdecoded c hc⟩
  generalize ht : (chans s.frm.nch).foldl (stagesBefore g) s = t at hbefore
  have hst : ChainOnly s t := ht ▸ foldl_chainOnly (stagesBefore_chainOnly g) _ s
  have hreord : ∀ c ∈ chans t.frm.nch, t.tag.get g c = .reord := by
    intro c hc
    rw [hst.frm] at hc
    rw [← ht, foldl_tag (stagesBefore_tag g), if_pos ⟨rfl, hc⟩]
  have hstereo := exec_stereo (hst.ready hs) (hst.frmValid.trans hf) hreord
  have hafter : runAll _ (stereo g t) = _ := runAll_chans_after (nch := s.frm.nch) fun c hc =>
    ⟨(hst.trans (stereo_chainOnly g t)).partReady (hpart c hc), by rw [stereo_tag, hst.frm, if_pos ⟨rfl, hc⟩]⟩
  rw [granuleChain, List.append_assoc, runAll_append hbefore, List.singleton_append, runAll_cons hstereo, hafter,
    reconstructGran, ht]

/-- The unit commands of both granules do what RECONSTRUCT does (R590). -/
theorem runAll_reconstruct {s : State} (hs : Ready s) (hf : s.frmValid = true)
    (hdecoded : ∀ q ∈ parts s.frm.nch, s.mdst.get q.1 q.2 = .huf) :
    runAll (granuleChain s.frm.nch .g0 ++ granuleChain s.frm.nch .g1) s = some (reconstruct s) := by
  have hkept := reconstructGran_chainOnly .g0 s
  have h0 := runAll_granuleChain hs hf fun c hc => hdecoded (.g0, c) (mem_parts.2 hc)
  have h1 := runAll_granuleChain (g := .g1) (hkept.ready hs) (hkept.frmValid.trans hf) fun c hc => by
    rw [hkept.frm] at hc
    rw [hkept.mdst, hdecoded (.g1, c) (mem_parts.2 hc)]
  rw [hkept.frm] at h1
  rw [runAll_append h0, h1, reconstruct]

/-! ## The command -/

/-- RECONSTRUCT of a decoded frame with no stage run (R590). -/
theorem exec_reconstruct {s : State} (hs : Ready s) (hf : s.frmValid = true) (hv : s.mdValid = true)
    (htags : ∀ q ∈ parts s.frm.nch, s.tag.get q.1 q.2 = .none) :
    exec .reconstruct s = .next { reconstruct s with result0 := BitVec.ofNat 32 (1152 * s.frm.nch) } := by
  have hstage : needStage (fun s => s.mdValid && (parts s.frm.nch).all fun q => decide (s.tag.get q.1 q.2 = .none)) s =
      .ok () s :=
    Act.need_of_true (Bool.and_eq_true_iff.2 ⟨hv, List.all_eq_true.2 fun q hq => decide_eq_true (htags q hq)⟩)
  refine command_ok (main := false) (modeRefuses_of_ready hs 0x47) ?_
  rw [Act.bind_of_ok (needFrame_ok hf), Act.bind_of_ok hstage, Act.modify_apply]
  rfl

end Sys2Proof.Machine

namespace Sys2Proof.Proofs

open Sys2Proof.Machine Sys2Proof.Safety

/-- Settles O47: RECONSTRUCT runs the stage functions the unit commands run, and of what the commands check these write
only the tags. -/
theorem reconstructIsTheChain : Obligations.ReconstructIsTheChain := by
  intro s hs hf hv _ htags
  have hexec := exec_reconstruct hs hf hv htags
  have hkept := reconstruct_chainOnly s
  refine ⟨⟨_, hexec, rfl, hkept.result1, fun q hq => reconstruct_tag hq,
    fun c hc => reconstruct_outPcm hc, fun hmono => ?_, hkept.md, hkept.mdst, hkept.frm,
    hkept.err⟩, fun hdecoded => ⟨_, runAll_reconstruct hs hf hdecoded, hexec⟩⟩
  have hcarry := reconstruct_channelCarry (s := s) (d := .c1) (by simp [chans, hmono])
  obtain ⟨hpcm, hpair⟩ := Prod.mk.inj hcarry
  obtain ⟨hovl, hvh⟩ := Prod.mk.inj hpair
  exact ⟨hpcm, hovl, hvh⟩

end Sys2Proof.Proofs
